-- ==== Sys2Proof/Word.lean ====
section
/-! DEFINITION. The widths of the block's values (00_scope.md R9, R10). -/

namespace Sys2Proof

/-- A command word (30_encoding.md R100). -/
abbrev Word := BitVec 32

/-- One device register, one register address, one byte on the bus (R9: `REG_ADDR_W`, `DATA_W`). -/
abbrev Byte := BitVec 8

/-- An assembled pair and the response data (R9: `PAIR_W`; R36). -/
abbrev Half := BitVec 16

/-- A coil pattern and an output port (R9: `PAT_W`). -/
abbrev Pattern := BitVec 4

/-- A sequencer index (R9: `IDX_W`). -/
abbrev SeqIndex := BitVec 3

/-- A unit number as the `UNIT` field spells it (30_encoding.md R103). -/
abbrev UnitNo := BitVec 2

/-- A step count (R9: `COUNT_W`). -/
abbrev StepCount := BitVec 24

/-- A device address on the bus (10_state.md R31). -/
abbrev BusAddr := BitVec 7

end Sys2Proof
end

