-- ==== Sys2Proof/Config.lean ====
section
/-! DEFINITION. What an implementation fixes, and the free values: the parameters of 00_scope.md R9 and the
oracle's answers of 20_memory.md R72, R74. An `opaque` constant has no body: nothing can be proved of its value. -/

namespace Sys2Proof

/-- `N_SEQ`, the number of sequencer units: 1 to 4 (R9, D38). -/
inductive UnitCount where
  | one | two | three | four
deriving DecidableEq, Repr

/-- The number `N_SEQ` names. -/
def UnitCount.toNat : UnitCount → Nat
  | .one => 1
  | .two => 2
  | .three => 3
  | .four => 4

/-- The parameters that stay fixed while the block runs (R9, R38). -/
structure Params where
  /-- `N_SEQ`. -/
  nSeq : UnitCount
  /-- `T_SETTLE`, in a unit of time that the model leaves open (D14). -/
  tSettle : Nat
deriving DecidableEq, Repr

/-- What happens in the sensor during one bus transaction, apart from the reference model: the registers it changes
and where its pointer ends. Any register file can be reached this way (20_memory.md R74). -/
structure DeviceMove where
  updates : List (Byte × Byte)
  ptr : Byte
deriving DecidableEq, Repr, Inhabited

/-- How the bus transport and the device answer one transaction (20_memory.md R72). -/
inductive Draw where
  /-- The reference device model of R76 answers. -/
  | reference
  /-- `Ok`, with this byte if it is a read; the device's state afterwards is `m`'s. -/
  | answers (b : Byte) (m : DeviceMove)
  /-- `Fail`; the device's state afterwards is `m`'s (40_register_protocol.md R135). -/
  | fails (m : DeviceMove)
  /-- No answer at all (R73); `taken` says whether the transport took the request (10_state.md R44). -/
  | silent (taken : Bool) (m : DeviceMove)
deriving DecidableEq, Repr, Inhabited

namespace Config

/-- The value of `N_SEQ` (R9: 2). -/
def nSeq : UnitCount := .two

/-- DESIGN CHOICE (log 4): `T_SETTLE` less one. `T_SETTLE` is OPEN and positive (R9, D14). -/
opaque settleExtra : Nat

/-- DESIGN CHOICE (log 5): `cfg_dev_addr` at power-on. `DEV_ADDR` is OPEN (R9, D9). -/
opaque cfgDevAddr : BusAddr

/-- DESIGN CHOICE (log 6): the answer to the n-th bus transaction where the state lists none: any value (I7, I8). -/
opaque freeDraw : Nat → Draw

/-- DESIGN CHOICE (log 8): what a device register that nothing has written holds (I14). -/
opaque devPowerOn : Byte → Byte

/-- DESIGN CHOICE (log 9): the device's register pointer at power-on (I14). -/
opaque devPtrPowerOn : Byte

/-- DESIGN CHOICE (log 9): the pattern on a unit's port at power-on (I15). -/
opaque portPowerOn : UnitNo → Pattern

end Config

/-- The device register addresses the host uses, as parameters (20_memory.md R78, D27). The low register of every pair
is at the high register's address plus 1 (R78), so only the high addresses are held; for a high address 0xFF see log 29. -/
structure RegMap where
  pwr : Byte
  config : Byte
  gyroCfg : Byte
  accelCfg : Byte
  accXH : Byte
  accYH : Byte
  accZH : Byte
  tempH : Byte
  gyrXH : Byte
  gyrYH : Byte
  gyrZH : Byte
deriving DecidableEq, Repr

/-- PRESUMED (log 22): the default addresses of R78, which the spec marks as general knowledge. -/
def Config.defaultRegs : RegMap :=
  { pwr := 0x6B, config := 0x1A, gyroCfg := 0x1B, accelCfg := 0x1C, accXH := 0x3B, accYH := 0x3D, accZH := 0x3F,
    tempH := 0x41, gyrXH := 0x43, gyrYH := 0x45, gyrZH := 0x47 }

end Sys2Proof
end

