-- ==== Sys2Proof/Syntax.lean ====
section
/-! DEFINITION. The commands: one constructor per row of spec/opcode_table.json (30_encoding.md R105). -/

namespace Sys2Proof

/-- The two step directions (41_step_sequencer.md R161). -/
inductive Direction where
  /-- `DIR = 0`, clockwise: adds to the index. -/
  | cw
  /-- `DIR = 1`, counter-clockwise: subtracts from the index. -/
  | ccw
deriving DecidableEq, Repr

/-- A command of the block. -/
inductive Instr where
  /-- SELECT addr (R131). -/
  | select (addr : Byte)
  /-- READ addr (R132). -/
  | read (addr : Byte)
  /-- READPAIR addr (R133). -/
  | readPair (addr : Byte)
  /-- WRITE addr, value (R134). -/
  | write (addr value : Byte)
  /-- STEP unit, direction, count (R163). -/
  | step (unit : UnitNo) (dir : Direction) (count : StepCount)
  /-- EMIT unit (R164). -/
  | emit (unit : UnitNo)
deriving DecidableEq, Repr

end Sys2Proof
end

