-- ==== Sys2Proof/WellFormed.lean ====
section
/-! DEFINITION. Which commands a block with a given number of units has (30_encoding.md R106). -/

namespace Sys2Proof

/-- The unit exists: `UNIT < N_SEQ` (R106). -/
def unitExists (n : UnitCount) (u : UnitNo) : Bool := decide (u.toNat < n.toNat)

/-- Every operand field is full width (R104), so the unit number is the one operand that can be out of range. -/
def Instr.wellFormed (n : UnitCount) : Instr → Bool
  | .select _ => true
  | .read _ => true
  | .readPair _ => true
  | .write _ _ => true
  | .step u _ _ => unitExists n u
  | .emit u => unitExists n u

end Sys2Proof
end

