-- ==== Sys2Proof/Decode.lean ====
section
/-! DEFINITION. The command word: decoding, total and refusing by name (30_encoding.md R100 to R108), and encoding. -/

namespace Sys2Proof

/-- Why a word is ILLEGAL (60_exceptions.md R232). -/
inductive Illegal where
  /-- `OP` is 0x0, 0x5 to 0x7 or 0xA to 0xF (R108). -/
  | reservedOp
  /-- A bit that must be 0 is 1 (R102, R103). -/
  | reservedBits
  /-- `UNIT >= N_SEQ` (R106). -/
  | noSuchUnit
deriving DecidableEq, Repr

/-- `OP = cmd_word[31:28]` (R101). -/
def opField (w : Word) : BitVec 4 := w.extractLsb' 28 4

/-- `ADDR = cmd_word[23:16]` (R104). -/
def addrField (w : Word) : Byte := w.extractLsb' 16 8

/-- `VALUE = cmd_word[7:0]` (R104). -/
def valueField (w : Word) : Byte := w.extractLsb' 0 8

/-- `UNIT = cmd_word[27:26]` (R104). -/
def unitField (w : Word) : UnitNo := w.extractLsb' 26 2

/-- `DIR = cmd_word[24]`: 0 is clockwise (R104, R161). -/
def dirField (w : Word) : Direction := if w.getLsbD 24 then .ccw else .cw

/-- `COUNT = cmd_word[23:0]` (R104). -/
def countField (w : Word) : StepCount := w.extractLsb' 0 24

/-- The command if every bit of `w` that `reserved` marks is 0. -/
def ifReservedZero (w reserved : Word) (i : Instr) : Except Illegal Instr :=
  if w &&& reserved = 0 then .ok i else .error .reservedBits

/-- The command if the unit exists (R106). -/
def ifUnitExists (n : UnitCount) (u : UnitNo) (r : Except Illegal Instr) : Except Illegal Instr :=
  if unitExists n u then r else .error .noSuchUnit

/-- R106: a total function of the word and `N_SEQ`. -/
def decode (n : UnitCount) (w : Word) : Except Illegal Instr :=
  match opField w with
  | 0x1#4 => ifReservedZero w 0x0F00FFFF (.select (addrField w))
  | 0x2#4 => ifReservedZero w 0x0F00FFFF (.read (addrField w))
  | 0x3#4 => ifReservedZero w 0x0F00FFFF (.readPair (addrField w))
  | 0x4#4 => ifReservedZero w 0x0F00FF00 (.write (addrField w) (valueField w))
  | 0x8#4 => ifUnitExists n (unitField w)
      (ifReservedZero w 0x02000000 (.step (unitField w) (dirField w) (countField w)))
  | 0x9#4 => ifUnitExists n (unitField w) (ifReservedZero w 0x03FFFFFF (.emit (unitField w)))
  | _ => .error .reservedOp

/-- The instruction a table word of `nbits` bits decodes to, in a block with the spec's `N_SEQ`. -/
def decodeTableWord (nbits w : Nat) : Option Instr :=
  (decode Config.nSeq (BitVec.ofNat 32 (w % 2 ^ nbits))).toOption

/-- The `DIR` bit of a direction (R103). -/
def Direction.bit : Direction → BitVec 1
  | .cw => 0
  | .ccw => 1

/-- The command word, field by field from the pattern strings of R102 and R103. -/
def encode : Instr → Word
  | .select a => 0x1#4 ++ 0#4 ++ a ++ 0#8 ++ 0#8
  | .read a => 0x2#4 ++ 0#4 ++ a ++ 0#8 ++ 0#8
  | .readPair a => 0x3#4 ++ 0#4 ++ a ++ 0#8 ++ 0#8
  | .write a v => 0x4#4 ++ 0#4 ++ a ++ 0#8 ++ v
  | .step u d c => 0x8#4 ++ u ++ 0#1 ++ d.bit ++ c
  | .emit u => 0x9#4 ++ u ++ 0#1 ++ 0#1 ++ 0#24

/-- The `match` column of R105. -/
def Instr.matchBits : Instr → Word
  | .select _ => 0x10000000
  | .read _ => 0x20000000
  | .readPair _ => 0x30000000
  | .write _ _ => 0x40000000
  | .step _ _ _ => 0x80000000
  | .emit _ => 0x90000000

/-- The `mask` column of R105. -/
def Instr.mask : Instr → Word
  | .select _ => 0xFF00FFFF
  | .read _ => 0xFF00FFFF
  | .readPair _ => 0xFF00FFFF
  | .write _ _ => 0xFF00FF00
  | .step _ _ _ => 0xF2000000
  | .emit _ => 0xF3FFFFFF

end Sys2Proof
end

