-- ==== Sys2Proof/Machine/State.lean ====
section
/-! DEFINITION. The block's state, the state of the parties around it, the inputs still to come, the reasons a step
can stop, and the machine right after reset (10_state.md). -/

namespace Sys2Proof.Machine

/-- Why a step could fault. There is no constructor: the block reports its two error outcomes as responses
(60_exceptions.md R230), and a transaction that never answers leaves it stuck, "not faulted" (R234). Safe (log 26). -/
inductive Fault where
deriving DecidableEq, Repr

/-- Why a step is refused. -/
inductive Refusal where
  /-- Raised by `exec` for a command that has no meaning in this model; none is left. Safe. -/
  | notModelled (mnemonic : String)
deriving DecidableEq, Repr

/-- `PHASE` (R35). -/
inductive Phase where
  /-- Ready for a command. -/
  | idle
  /-- Running one; between two steps of the model: waiting for a bus transaction that never answers (R73). -/
  | exec
  /-- A response waits for the host. -/
  | resp
deriving DecidableEq, Repr

/-- The response statuses that are produced (60_exceptions.md R231). -/
inductive Status where
  | ok | busFail | illegal
deriving DecidableEq, Repr

/-- The transport's answer to a write transaction (20_memory.md R72). -/
inductive WriteAnswer where
  | ok | fail | silent
deriving DecidableEq, Repr

/-- The transport's answer to a read transaction (20_memory.md R72). -/
inductive ReadAnswer where
  | ok (b : Byte) | fail | silent
deriving DecidableEq, Repr

/-- The events of 00_scope.md R12, a bus transaction with the answer it got (10_state.md R39). -/
inductive Event where
  | busWrite (a : BusAddr) (bytes : List Byte) (ans : WriteAnswer)
  | busRead (a : BusAddr) (ans : ReadAnswer)
  | portWrite (u : UnitNo) (p : Pattern)
  | portFlush (u : UnitNo)
  | settle (u : UnitNo)
  | respond (st : Status) (d : Half)
deriving DecidableEq, Repr

/-- One bus request (R41). -/
inductive BusRequest where
  | write (a : BusAddr) (bytes : List Byte)
  | read (a : BusAddr)
deriving DecidableEq, Repr

/-- A bus request the block waits on (R44). -/
structure Outstanding where
  req : BusRequest
  /-- The transport has taken the request (`bt_req_ready` was 1). -/
  taken : Bool
deriving DecidableEq, Repr

/-- The device's register file as (address, byte) pairs, addresses strictly rising and below 256 (20_memory.md R74).
An unlisted register has no value the model knows (log 8). -/
abbrev Memory := List Host.Cell

/-- The sensor device: an oracle to the block (R74). -/
structure Device where
  /-- `DEVREG`. -/
  regs : Memory
  /-- `DEVPTR`. -/
  ptr : Byte
deriving DecidableEq, Repr

/-- One unit's output port and the host's settle duty towards that unit. -/
structure Port where
  /-- `PORT_W[u]`, the last written pattern (10_state.md R39). -/
  written : Pattern
  /-- `PORT_F[u]`, the last flushed pattern (R39). -/
  flushed : Pattern
  /-- The unit has emitted since reset, so the pattern is known (70_reset_and_hazards.md R265, R266). -/
  driven : Bool
  /-- `some t`: the unit's last duty-making command (R266) was answered at least `t` ago; `none`: no wait is owed. -/
  duty : Option Nat
deriving DecidableEq, Repr

/-- One value for each unit number (R32); `UNIT` is two bits (30_encoding.md R103). -/
structure PerUnit (α : Type) where
  u0 : α
  u1 : α
  u2 : α
  u3 : α
deriving DecidableEq, Repr

/-- A breach of a host duty, recorded (70_reset_and_hazards.md R267). -/
inductive HostFault where
  /-- A STEP on unit `u` was accepted less than `T_SETTLE` after an emission the block did not settle. -/
  | settleTooSoon (u : UnitNo)
deriving DecidableEq, Repr

/-- The `rst` input over one step (70_reset_and_hazards.md R260, R262). -/
inductive ResetPin where
  | low
  /-- High when the step begins. -/
  | high
  /-- Rises during the command that starts in this step, after `k` of its events. -/
  | rises (k : Nat)
deriving DecidableEq, Repr

/-- What the host and the sensor do at one step: the inputs of 10_state.md R40 and what precedes them (log 2). -/
structure Inputs where
  /-- Time that passes before the inputs are sampled. -/
  wait : Nat := 0
  /-- Registers the sensor changes on its own before the inputs are sampled (20_memory.md R74, R83). -/
  sensor : List (Byte × Byte) := []
  rst : ResetPin := .low
  cfgDevAddr : BusAddr := 0
  cmdValid : Bool := false
  cmdWord : Word := 0
  rspReady : Bool := false
deriving DecidableEq, Repr

/-- Everything a step reads or changes. Plain data. -/
structure State where
  /-- `N_SEQ` and `T_SETTLE` (00_scope.md R9). -/
  params : Params
  /-- `DEV_ADDR` (R31). -/
  devAddr : BusAddr
  /-- `IDX[u]` (R32); places past `N_SEQ` belong to no unit (log 17). -/
  idx : PerUnit SeqIndex
  /-- `PHASE` (R35). -/
  phase : Phase
  /-- `CMD` (R35). -/
  cmd : Word
  /-- `REM` (R35). -/
  rem : StepCount
  /-- `HI` (R35). -/
  hi : Byte
  /-- `RSP_STATUS` (R36). -/
  rspStatus : BitVec 2
  /-- `RSP_DATA` (R36). -/
  rspData : Half
  /-- The settle timer: time still to run, 0 when stopped (60_exceptions.md R243, log 13). -/
  timer : Nat
  /-- The bus request the block waits on (R44). -/
  outstanding : Option Outstanding
  /-- The sensor device (R39, R74). -/
  dev : Device
  /-- The output ports (R39); places past `N_SEQ` belong to no unit (log 17). -/
  ports : PerUnit Port
  /-- The event history, oldest first (R39). -/
  events : List Event
  /-- Breaches of host duties, oldest first (R267). -/
  hostFaults : List HostFault
  /-- The model's own: the inputs of the coming steps (log 2). -/
  host : List Inputs
  /-- The model's own: a reset that rises after so many more events, with its `cfg_dev_addr` (R262, log 11). -/
  pendingReset : Option (Nat × BusAddr)
  /-- The model's own: the coming bus answers (log 6). -/
  bus : List Draw
  /-- The model's own: bus answers drawn so far, the counter of `Config.freeDraw` (log 6). -/
  draws : Nat
deriving DecidableEq, Repr

/-- A port before anything drove it: an unknown pattern (R47, I15). -/
def Port.powerOn (u : UnitNo) : Port :=
  { written := Config.portPowerOn u, flushed := Config.portPowerOn u, driven := false, duty := none }

/-- The machine right after reset (R47): the block's registers at their reset values, the parties around it at
values that are free (log 4, 5, 8, 9), nothing recorded and no input listed. -/
def State.reset : State :=
  { params := { nSeq := Config.nSeq, tSettle := Config.settleExtra + 1 }
    devAddr := Config.cfgDevAddr
    idx := { u0 := 0, u1 := 0, u2 := 0, u3 := 0 }
    phase := .idle
    cmd := 0
    rem := 0
    hi := 0
    rspStatus := 0
    rspData := 0
    timer := 0
    outstanding := none
    dev := { regs := [], ptr := Config.devPtrPowerOn }
    ports := { u0 := Port.powerOn 0, u1 := Port.powerOn 1, u2 := Port.powerOn 2, u3 := Port.powerOn 3 }
    events := []
    hostFaults := []
    host := []
    pendingReset := none
    bus := []
    draws := 0 }

end Sys2Proof.Machine
end

