-- ==== Sys2Proof/Machine/Memory.lean ====
section
/-! DEFINITION. The device register space as a list of (address, byte) pairs (20_memory.md R70, R74). -/

namespace Sys2Proof.Machine

/-- The canonical form: addresses strictly rising and below 256 (R70). An unlisted register reads as no value (log 8),
so no entry can equal what an unlisted address reads as. -/
def Memory.wf : Memory → Bool
  | [] => true
  | c :: rest => decide (c.1 < 256) && rest.all (fun d => decide (c.1 < d.1)) && Memory.wf rest

/-- The byte listed at an address, if one is. -/
def Memory.read? : Memory → Nat → Option Byte
  | [], _ => none
  | c :: rest, a => if c.1 = a then some c.2 else Memory.read? rest a

/-- The register file with `v` at address `a`. -/
def Memory.write : Memory → Nat → Byte → Memory
  | [], a, v => [(a, v)]
  | c :: rest, a, v =>
    if a < c.1 then (a, v) :: c :: rest
    else if a = c.1 then (a, v) :: rest
    else c :: Memory.write rest a v

end Sys2Proof.Machine
end

