-- ==== Sys2Proof/Machine/Device.lean ====
section
/-! DEFINITION. The sensor device: its register file and pointer, the reference model of 20_memory.md R76, and what an
oracle answer does to it (R74). -/

namespace Sys2Proof.Machine

/-- `DEVREG[a]`. A register nothing has written holds an unknown byte (I14, log 8). -/
def Device.reg (d : Device) (a : Byte) : Byte := (d.regs.read? a.toNat).getD (Config.devPowerOn a)

/-- The device with `DEVREG[a] = v`. -/
def Device.setReg (d : Device) (a v : Byte) : Device := { d with regs := d.regs.write a.toNat v }

/-- The device after registers change on their own (R74, R83). -/
def Device.update (d : Device) (us : List (Byte × Byte)) : Device := us.foldl (fun d u => d.setReg u.1 u.2) d

/-- The device after an oracle's move (R74). -/
def Device.move (d : Device) (m : DeviceMove) : Device := { d.update m.updates with ptr := m.ptr }

/-- R76, a write transaction: one byte sets the pointer; two bytes store the second at the first and leave the pointer
one past it, modulo 256 (log 7). The block sends no other length (R71). -/
def Device.onWrite (d : Device) : List Byte → Device
  | [a] => { d with ptr := a }
  | [a, v] => { d.setReg a v with ptr := a + 1 }
  | _ => d

/-- R76, the byte a read transaction answers. -/
def Device.current (d : Device) : Byte := d.reg d.ptr

/-- R76, the device after a read transaction: the pointer moves on by one, modulo 256 (log 7). -/
def Device.onRead (d : Device) : Device := { d with ptr := d.ptr + 1 }

/-- The answer to a write transaction (R72). -/
def drawWriteAnswer : Draw → WriteAnswer
  | .reference => .ok
  | .answers _ _ => .ok
  | .fails _ => .fail
  | .silent _ _ => .silent

/-- The answer to a read transaction from device `d` (R72). -/
def drawReadAnswer (d : Device) : Draw → ReadAnswer
  | .reference => .ok d.current
  | .answers b _ => .ok b
  | .fails _ => .fail
  | .silent _ _ => .silent

/-- The device after a write transaction of `bytes` is answered. -/
def drawDeviceAfterWrite (d : Device) (bytes : List Byte) : Draw → Device
  | .reference => d.onWrite bytes
  | .answers _ m => d.move m
  | .fails m => d.move m
  | .silent _ m => d.move m

/-- The device after a read transaction is answered. -/
def drawDeviceAfterRead (d : Device) : Draw → Device
  | .reference => d.onRead
  | .answers _ m => d.move m
  | .fails m => d.move m
  | .silent _ m => d.move m

/-- Whether the transport took a request it never answers (10_state.md R44). -/
def drawTaken : Draw → Bool
  | .silent taken _ => taken
  | _ => true

end Sys2Proof.Machine
end

