-- ==== Sys2Proof/Machine/Flags.lean ====
section
/-! DEFINITION. The block has no flags and no condition codes (10_state.md R37): a command's outcome is its response
status (R36). Here are the statuses' codes. -/

namespace Sys2Proof.Machine

/-- The value of `RSP_STATUS` (60_exceptions.md R231). -/
def Status.code : Status → BitVec 2
  | .ok => 0
  | .busFail => 1
  | .illegal => 2

/-- The status a code names; code 3 is reserved (R231, I6). -/
def Status.ofCode (c : BitVec 2) : Option Status :=
  match c with
  | 0#2 => some .ok
  | 1#2 => some .busFail
  | 2#2 => some .illegal
  | 3#2 => none

end Sys2Proof.Machine
end

