-- ==== Sys2Proof/Machine/Operands.lean ====
section
/-! DEFINITION. The values commands compute: byte placement (40_register_protocol.md R137), the pattern ROM
(10_state.md R33) and index arithmetic (41_step_sequencer.md R171). -/

namespace Sys2Proof.Machine

/-- `zext_16(b)`, the response data of READ (R132). -/
def zext16 (b : Byte) : Half := b.setWidth 16

/-- `hi ++ lo`, the response data of READPAIR: high byte first (R133, 20_memory.md R84). -/
def pairOf (hi lo : Byte) : Half := hi ++ lo

/-- `s16(v)`: the host's reading of a pair as two's complement (00_scope.md R10). -/
def s16 (v : Half) : Int := v.toInt

/-- `ROM[k]`: hard-wired, shared by all units (R33). -/
def rom (k : SeqIndex) : Pattern :=
  match k with
  | 0#3 => 1
  | 1#3 => 3
  | 2#3 => 2
  | 3#3 => 6
  | 4#3 => 4
  | 5#3 => 12
  | 6#3 => 8
  | 7#3 => 9

/-- `(i + k*s) mod 8`, `s` being +1 clockwise and -1 counter-clockwise (R161, R171). -/
def shiftIndex (d : Direction) (i k : SeqIndex) : SeqIndex :=
  match d with
  | .cw => i + k
  | .ccw => i - k

/-- Unit `u`'s value. -/
def PerUnit.get {α : Type} (p : PerUnit α) (u : UnitNo) : α :=
  match u with
  | 0#2 => p.u0
  | 1#2 => p.u1
  | 2#2 => p.u2
  | 3#2 => p.u3

/-- Unit `u`'s value replaced. -/
def PerUnit.set {α : Type} (p : PerUnit α) (u : UnitNo) (x : α) : PerUnit α :=
  match u with
  | 0#2 => { p with u0 := x }
  | 1#2 => { p with u1 := x }
  | 2#2 => { p with u2 := x }
  | 3#2 => { p with u3 := x }

/-- Every unit's value changed alike. -/
def PerUnit.map {α β : Type} (f : α → β) (p : PerUnit α) : PerUnit β :=
  { u0 := f p.u0, u1 := f p.u1, u2 := f p.u2, u3 := f p.u3 }

/-- `IDX[u]`. -/
def State.idxOf (s : State) (u : UnitNo) : SeqIndex := s.idx.get u

/-- `IDX[u] <- i`. -/
def State.setIdx (s : State) (u : UnitNo) (i : SeqIndex) : State := { s with idx := s.idx.set u i }

/-- `IDX[u] <- (IDX[u] + k*s) mod 8` (R163). -/
def State.moveIdx (s : State) (u : UnitNo) (d : Direction) (k : SeqIndex) : State :=
  s.setIdx u (shiftIndex d (s.idxOf u) k)

/-- Unit `u`'s port. -/
def State.portOf (s : State) (u : UnitNo) : Port := s.ports.get u

/-- Unit `u`'s port replaced. -/
def State.setPort (s : State) (u : UnitNo) (p : Port) : State := { s with ports := s.ports.set u p }

/-- Unit `u` is one of the block's `N_SEQ` units (60_exceptions.md R246). -/
def State.hasUnit (s : State) (u : UnitNo) : Bool := unitExists s.params.nSeq u

/-- Pattern bit `i` drives port line `i` (10_state.md R46). -/
def portLine (p : Pattern) (i : Nat) : Bool := p.getLsbD i

end Sys2Proof.Machine
end

