-- ==== Sys2Proof/Machine/Ops.lean ====
section
/-! DEFINITION. The operations commands are made of: reset, the event primitives of 00_scope.md R12 and the two error
outcomes (R13). A command is written as its spec pseudocode is: each event names what follows it, `k`, and what follows
does not happen where the command ends early (a failed or unanswered transaction, a reset). -/

namespace Sys2Proof.Machine

/-- Time passes: every settle duty grows older by `d` (70_reset_and_hazards.md R266, log 14). -/
def Port.age (d : Nat) (p : Port) : Port := { p with duty := p.duty.map (· + d) }

/-- `d` units of time pass (log 14). -/
def State.elapse (d : Nat) (s : State) : State := { s with ports := s.ports.map (Port.age d) }

/-- The settle timer runs out: no event is issued before it has (R12, R243, log 13). -/
def State.expire (s : State) : State := { s.elapse s.timer with timer := 0 }

/-- The next event may be issued: the settle timer has run out, and a reset to come is `r`. -/
def State.proceed (r : Option (Nat × BusAddr)) (s : State) : State := { s.expire with pendingReset := r }

/-- `HI <- b` (10_state.md R35). -/
def State.setHi (b : Byte) (s : State) : State := { s with hi := b }

/-- `REM <- n` (R35). -/
def State.setRem (n : StepCount) (s : State) : State := { s with rem := n }

/-- An event joins the history (10_state.md R39). -/
def State.record (e : Event) (s : State) : State := { s with events := s.events ++ [e] }

/-- Reset (R260): every register of the block at its reset value, no event issued (R261), the outstanding request
abandoned (R262). The ports, the device and what was recorded stay as they are (R261, R262, log 15, 21). -/
def resetBlock (addr : BusAddr) (s : State) : State :=
  { s with
    devAddr := addr
    idx := { u0 := 0, u1 := 0, u2 := 0, u3 := 0 }
    phase := .idle
    cmd := 0
    rem := 0
    hi := 0
    rspStatus := 0
    rspData := 0
    timer := 0
    outstanding := none
    ports := s.ports.map (fun p => { p with driven := false })
    pendingReset := none }

/-- What stands before every event: a reset that is due ends the command (R262, R237); else the settle timer runs out
and the event follows. -/
def gate (s : State) (k : State → State) : State :=
  match s.pendingReset with
  | some (0, addr) => resetBlock addr s
  | some (n + 1, addr) => k (s.proceed (some (n, addr)))
  | none => k (s.proceed none)

/-- The effect of `Respond(st, d)` (10_state.md R36, R41). -/
def respondNow (st : Status) (d : Half) (s : State) : State :=
  { s.record (.respond st d) with phase := .resp, rspStatus := st.code, rspData := d, pendingReset := none }

/-- `Respond(st, d)` (R12). -/
def respond (st : Status) (d : Half) (s : State) : State := gate s (respondNow st d)

/-- `raise BusFail` (R13): the one event left is the response. The block saves nothing (60_exceptions.md R239). -/
def raiseBusFail (s : State) : State := respond .busFail 0 s

/-- `raise Illegal` (R13, 30_encoding.md R107). -/
def raiseIllegal (s : State) : State := respond .illegal 0 s

/-- A transaction that never answers: the block stays in EXEC with its request outstanding (20_memory.md R73,
60_exceptions.md R234). -/
def hang (o : Outstanding) (s : State) : State := { s with outstanding := some o, pendingReset := none }

/-- The answer to the bus transaction that is `n` transactions ahead: the next is 0. Past the listed answers it is any
answer (R72, I7, I8, log 6). -/
def State.drawAt (s : State) (n : Nat) : Draw := (s.bus[n]?).getD (Config.freeDraw (s.draws + n))

/-- One answer has been used. -/
def State.dropDraw (s : State) : State := { s with bus := s.bus.tail, draws := s.draws + 1 }

/-- A write transaction of `bytes` is over: recorded with its answer, which moved the device. -/
def State.afterWrite (bytes : List Byte) (s : State) : State :=
  { s.dropDraw.record (.busWrite s.devAddr bytes (drawWriteAnswer (s.drawAt 0))) with
    dev := drawDeviceAfterWrite s.dev bytes (s.drawAt 0) }

/-- A read transaction is over: recorded with its answer, which moved the device. -/
def State.afterRead (s : State) : State :=
  { s.dropDraw.record (.busRead s.devAddr (drawReadAnswer s.dev (s.drawAt 0))) with
    dev := drawDeviceAfterRead s.dev (s.drawAt 0) }

/-- `BusWrite!(DEV_ADDR, bytes)` (R12, R14). -/
def busWrite (bytes : List Byte) (s : State) (k : State → State) : State :=
  gate s fun s =>
    match drawWriteAnswer (s.drawAt 0) with
    | .ok => k (s.afterWrite bytes)
    | .fail => raiseBusFail (s.afterWrite bytes)
    | .silent => hang { req := .write s.devAddr bytes, taken := drawTaken (s.drawAt 0) } (s.afterWrite bytes)

/-- `b <- BusRead!(DEV_ADDR, 1)` (R12, R14). -/
def busRead (s : State) (k : Byte → State → State) : State :=
  gate s fun s =>
    match drawReadAnswer s.dev (s.drawAt 0) with
    | .ok b => k b s.afterRead
    | .fail => raiseBusFail s.afterRead
    | .silent => hang { req := .read s.devAddr, taken := drawTaken (s.drawAt 0) } s.afterRead

/-- `PORT_W[u] <- p`, and the event (R39). -/
def State.afterPortWrite (u : UnitNo) (p : Pattern) (s : State) : State :=
  (s.setPort u { s.portOf u with written := p }).record (.portWrite u p)

/-- `PORT_F[u]` takes the written pattern, and the event (R39, log 10). -/
def State.afterPortFlush (u : UnitNo) (s : State) : State :=
  (s.setPort u { s.portOf u with flushed := (s.portOf u).written, driven := true }).record (.portFlush u)

/-- The settle timer starts, and the event (R243). -/
def State.afterSettle (u : UnitNo) (s : State) : State := { s.record (.settle u) with timer := s.params.tSettle }

/-- `PortWrite(u, p)` (R12). -/
def portWrite (u : UnitNo) (p : Pattern) (s : State) (k : State → State) : State :=
  gate s fun s => k (s.afterPortWrite u p)

/-- `PortFlush(u)` (R12). -/
def portFlush (u : UnitNo) (s : State) (k : State → State) : State :=
  gate s fun s => k (s.afterPortFlush u)

/-- `Emit(u)` (41_step_sequencer.md R162): write `ROM[IDX[u]]`, then flush. -/
def emission (u : UnitNo) (s : State) (k : State → State) : State :=
  portWrite u (rom (s.idxOf u)) s fun s => portFlush u s k

/-- `Settle(u)` (R12): the settle timer starts; the next event waits for it (`gate`). -/
def settle (u : UnitNo) (s : State) (k : State → State) : State :=
  gate s fun s => k (s.afterSettle u)

/-- The host duty of R266 towards unit `u` begins: the block answered a command whose last emission it did not settle. -/
def oweSettle (u : UnitNo) (s : State) : State := s.setPort u { s.portOf u with duty := some 0 }

/-- Unit `u`'s last emission has been settled by the block: no duty is left. -/
def clearDuty (u : UnitNo) (s : State) : State := s.setPort u { s.portOf u with duty := none }

/-- A settle duty is unmet (R266): less than `T_SETTLE` has passed. -/
def dutyUnmet (tSettle : Nat) (p : Port) : Bool :=
  match p.duty with
  | none => false
  | some t => decide (t < tSettle)

/-- A STEP on unit `u` accepted too soon is recorded as a host fault (R267); the block is unaffected. -/
def checkDuty (u : UnitNo) (s : State) : State :=
  if dutyUnmet s.params.tSettle (s.portOf u) then { s with hostFaults := s.hostFaults ++ [.settleTooSoon u] } else s

end Sys2Proof.Machine
end

