-- ==== Sys2Proof/Machine/Rpm.lean ====
section
/-! DEFINITION. The register protocol commands (40_register_protocol.md R130 to R137). -/

namespace Sys2Proof.Machine

/-- SELECT (R131). -/
def execSelect (addr : Byte) (s : State) : Host.Outcome State Fault Refusal :=
  .next (busWrite [addr] s fun s => respond .ok 0 s)

/-- READ (R132). -/
def execRead (addr : Byte) (s : State) : Host.Outcome State Fault Refusal :=
  .next (busWrite [addr] s fun s => busRead s fun b s => respond .ok (zext16 b) s)

/-- READPAIR (R133): no select between the two reads. -/
def execReadPair (addr : Byte) (s : State) : Host.Outcome State Fault Refusal :=
  .next (busWrite [addr] s fun s =>
    busRead s fun hi s =>
    busRead (s.setHi hi) fun lo s =>
    respond .ok (pairOf hi lo) s)

/-- WRITE (R134): the address byte first. -/
def execWrite (addr value : Byte) (s : State) : Host.Outcome State Fault Refusal :=
  .next (busWrite [addr, value] s fun s => respond .ok 0 s)

end Sys2Proof.Machine
end

