-- ==== Sys2Proof/Machine/Seq.lean ====
section
/-! DEFINITION. The step sequencer commands (41_step_sequencer.md R160 to R171). -/

namespace Sys2Proof.Machine

/-- The main phase of STEP (R163), `q` times round its loop: `while REM >= 3` runs `REM / 3` times. -/
def stepMain (u : UnitNo) (d : Direction) : Nat → State → (State → State) → State
  | 0, s, k => k s
  | q + 1, s, k =>
    emission u (s.moveIdx u d 3) fun s =>
    settle u s fun s =>
    stepMain u d q (s.setRem (s.rem - 3)) k

/-- The remainder phase of STEP (R163): one index shift, one emission, a settle only clockwise, `REM <- 0`, the
response. After a counter-clockwise STEP the host owes the settle wait (70_reset_and_hazards.md R266). -/
def stepRemainder (u : UnitNo) (d : Direction) (s : State) : State :=
  emission u (s.moveIdx u d (s.rem.setWidth 3)) fun s =>
  match d with
  | .cw => settle u s fun s => gate (s.setRem 0) fun s => respondNow .ok 0 (clearDuty u s)
  | .ccw => gate (s.setRem 0) fun s => respondNow .ok 0 (oweSettle u s)

/-- STEP (R163). A unit the block does not have is ILLEGAL before any event (30_encoding.md R107, log 16). -/
def execStep (u : UnitNo) (d : Direction) (count : StepCount) (s : State) : Host.Outcome State Fault Refusal :=
  .next (if s.hasUnit u then
      stepMain u d (count.toNat / 3) ((checkDuty u s).setRem count) (stepRemainder u d)
    else raiseIllegal s)

/-- EMIT (R164): no settle. Where the pattern on the port was not known, the host owes the settle wait (R266). -/
def execEmit (u : UnitNo) (s : State) : Host.Outcome State Fault Refusal :=
  .next (if s.hasUnit u then
      emission u s fun t =>
      gate t fun t => respondNow .ok 0 (if (s.portOf u).driven then t else oweSettle u t)
    else raiseIllegal s)

end Sys2Proof.Machine
end

