-- ==== Sys2Proof/Machine/Dispatch.lean ====
section
/-! DEFINITION. The meaning of every command, one arm per constructor (30_encoding.md R105). -/

namespace Sys2Proof.Machine

def exec (i : Instr) (s : State) : Host.Outcome State Fault Refusal :=
  match i with
  | .select addr => Sys2Proof.Machine.execSelect addr s
  | .read addr => Sys2Proof.Machine.execRead addr s
  | .readPair addr => Sys2Proof.Machine.execReadPair addr s
  | .write addr value => Sys2Proof.Machine.execWrite addr value s
  | .step u d count => Sys2Proof.Machine.execStep u d count s
  | .emit u => Sys2Proof.Machine.execEmit u s

end Sys2Proof.Machine
end

