-- ==== Sys2Proof/Machine/Handshake.lean ====
section
/-! DEFINITION. What the host does to the block between commands: the inputs of a step, acceptance of a command,
taking of a response (10_state.md R42, R43; 70_reset_and_hazards.md R270). -/

namespace Sys2Proof.Machine

/-- The inputs of this step; past the end of the list every input is quiet (log 2). -/
def State.inputs (s : State) : Inputs := s.host.headD {}

/-- What precedes the sampling of the inputs: time passes, the sensor changes registers on its own. -/
def State.arrive (s : State) : State :=
  { s.elapse s.inputs.wait with host := s.host.tail, dev := s.dev.update s.inputs.sensor }

/-- The reset that `rst` announces for the command that starts now (R262). -/
def announcedReset (p : Inputs) : Option (Nat × BusAddr) :=
  match p.rst with
  | .low => none
  | .high => none
  | .rises k => some (k, p.cfgDevAddr)

/-- Acceptance (R42): `CMD <- cmd_word`, `PHASE <- EXEC`. -/
def State.accept (p : Inputs) (s : State) : State :=
  { s with cmd := p.cmdWord, phase := .exec, pendingReset := announcedReset p }

/-- The host takes the response (R43): `PHASE <- IDLE`. The response registers keep their values (log 19). -/
def State.takeResponse (s : State) : State := { s with phase := .idle }

end Sys2Proof.Machine
end

