-- ==== Sys2Proof/Machine/Cycle.lean ====
section
/-! DEFINITION. One step of the block: reset, else by `PHASE` (10_state.md R35, R42, R43; 60_exceptions.md R237). -/

namespace Sys2Proof.Machine

/-- Run the accepted command word: its meaning, or `raise Illegal` (30_encoding.md R106, R107). -/
def runAccepted (s : State) : Host.Outcome State Fault Refusal :=
  match decode s.params.nSeq s.cmd with
  | .ok i => exec i s
  | .error _ => .next (raiseIllegal s)

/-- The step after `arrive`, with the inputs `p`. Reset overrides everything (R237). In IDLE a presented word is
accepted and run; in RESP the response waits until it is taken; in EXEC the block waits for a transaction that never
answers (R73, R234). A word presented outside IDLE is not accepted (R42). -/
def react (p : Inputs) (s : State) : Host.Outcome State Fault Refusal :=
  if p.rst = .high then .next (resetBlock p.cfgDevAddr s)
  else
    match s.phase with
    | .idle => if p.cmdValid then runAccepted (s.accept p) else .next s
    | .exec => .next s
    | .resp => if p.rspReady then .next s.takeResponse else .next s

/-- One step. -/
def cycle (s : State) : Host.Outcome State Fault Refusal := react s.inputs s.arrive

end Sys2Proof.Machine
end

