-- ==== Sys2Proof/Machine/Step.lean ====
section
/-! DEFINITION. The machine's step, and how a command word is put where the next step takes it from. -/

namespace Sys2Proof.Machine

/-- One step (Cycle.lean). -/
def step (s : State) : Host.Outcome State Fault Refusal := cycle s

/-- The block fetches nothing: it runs the word the host presents (10_state.md R35, R42). The next step samples inputs
that present `w` (its bits above `nbits` 0) with nothing else asserted, and finds the block ready for it (log 3). -/
def State.withFetchWord (s : State) (nbits w : Nat) : State :=
  { s with
    host := { cmdValid := true, cmdWord := BitVec.ofNat 32 (w % 2 ^ nbits) } :: s.host
    phase := .idle
    outstanding := none }

end Sys2Proof.Machine
end

