-- ==== Sys2Proof/Machine/Assembler.lean ====
section
/-! DEFINITION. The assembler syntax of 30_encoding.md R109: one line of text to one command word (log 24). -/

namespace Sys2Proof.Asm

/-- What stands on a line between blanks and before the comment. -/
inductive Token where
  | word (cs : List Char)
  | comma
deriving DecidableEq, Repr

/-- A word token, unless it is empty. -/
def wordToken : List Char → List Token
  | [] => []
  | c :: cs => [.word (c :: cs)]

/-- The tokens of a line; `cur` is the word being read. A `;` starts a comment (R109). -/
def tokens : List Char → List Char → List Token
  | [], cur => wordToken cur
  | c :: rest, cur =>
    if c = ';' then wordToken cur
    else if c = ' ' ∨ c = '\t' then wordToken cur ++ tokens rest []
    else if c = ',' then wordToken cur ++ .comma :: tokens rest []
    else tokens rest (cur ++ [c])

/-- The value of a digit in a base up to 16, in either case. -/
def digit (base : Nat) (c : Char) : Option Nat :=
  let n := c.toNat
  let v :=
    if 48 ≤ n ∧ n ≤ 57 then n - 48
    else if 97 ≤ n ∧ n ≤ 102 then n - 87
    else if 65 ≤ n ∧ n ≤ 70 then n - 55
    else 16
  if v < base then some v else none

/-- The digits read so far stand for `acc`. -/
def digits (base : Nat) : List Char → Nat → Option Nat
  | [], acc => some acc
  | c :: cs, acc =>
    match digit base c with
    | some v => digits base cs (acc * base + v)
    | none => none

/-- A decimal or `0x` hexadecimal number (R109). -/
def number : List Char → Option Nat
  | '0' :: 'x' :: c :: cs => digits 16 (c :: cs) 0
  | c :: cs => digits 10 (c :: cs) 0
  | [] => none

/-- A number of at most `top`: the assembler refuses what is out of its field's range, it does not truncate (D37). -/
def numberUpTo (top : Nat) (cs : List Char) : Option Nat :=
  match number cs with
  | some n => if n ≤ top then some n else none
  | none => none

/-- The `REG_*` names of 20_memory.md R78, the low register of a pair at the high one's address plus 1. DESIGN CHOICE
(log 29): where the high register is at 0xFF, which leaves no such 8-bit address, the low one is at 0x00. -/
def regNames (r : RegMap) : List (List Char × Byte) :=
  [("REG_PWR".toList, r.pwr), ("REG_CONFIG".toList, r.config), ("REG_GYRO_CFG".toList, r.gyroCfg),
   ("REG_ACCEL_CFG".toList, r.accelCfg),
   ("REG_ACC_X_H".toList, r.accXH), ("REG_ACC_X_L".toList, r.accXH + 1),
   ("REG_ACC_Y_H".toList, r.accYH), ("REG_ACC_Y_L".toList, r.accYH + 1),
   ("REG_ACC_Z_H".toList, r.accZH), ("REG_ACC_Z_L".toList, r.accZH + 1),
   ("REG_TEMP_H".toList, r.tempH), ("REG_TEMP_L".toList, r.tempH + 1),
   ("REG_GYR_X_H".toList, r.gyrXH), ("REG_GYR_X_L".toList, r.gyrXH + 1),
   ("REG_GYR_Y_H".toList, r.gyrYH), ("REG_GYR_Y_L".toList, r.gyrYH + 1),
   ("REG_GYR_Z_H".toList, r.gyrZH), ("REG_GYR_Z_L".toList, r.gyrZH + 1)]

/-- The byte a name stands for, if it is one of these. -/
def lookupName : List (List Char × Byte) → List Char → Option Byte
  | [], _ => none
  | e :: rest, cs => if e.1 = cs then some e.2 else lookupName rest cs

/-- `addr` and `value`: a number 0 to 255 or a `REG_*` name (R109). -/
def byteOperand (r : RegMap) (cs : List Char) : Option Byte :=
  match lookupName (regNames r) cs with
  | some b => some b
  | none => (numberUpTo 255 cs).map (BitVec.ofNat 8)

/-- `unit`: 0 to `N_SEQ` - 1 (R109). -/
def unitOperand (n : UnitCount) (cs : List Char) : Option UnitNo :=
  (numberUpTo (n.toNat - 1) cs).map (BitVec.ofNat 2)

/-- `CW` or `CCW` (R109). -/
def dirOperand (cs : List Char) : Option Direction :=
  if cs = "CW".toList then some .cw else if cs = "CCW".toList then some .ccw else none

/-- `count`: 0 to 16777215 (R109). -/
def countOperand (cs : List Char) : Option StepCount := (numberUpTo 16777215 cs).map (BitVec.ofNat 24)

/-- The command a line's tokens spell (R109). -/
def parse (r : RegMap) (n : UnitCount) : List Token → Option Instr
  | [.word m, .word a] =>
    if m = "SELECT".toList then (byteOperand r a).map .select
    else if m = "READ".toList then (byteOperand r a).map .read
    else if m = "READPAIR".toList then (byteOperand r a).map .readPair
    else if m = "EMIT".toList then (unitOperand n a).map .emit
    else none
  | [.word m, .word a, .comma, .word v] =>
    if m = "WRITE".toList then
      (byteOperand r a).bind fun addr => (byteOperand r v).map fun value => .write addr value
    else none
  | [.word m, .word u, .comma, .word d, .comma, .word c] =>
    if m = "STEP".toList then
      (unitOperand n u).bind fun unit => (dirOperand d).bind fun dir => (countOperand c).map fun count =>
        .step unit dir count
    else none
  | _ => none

/-- What one line assembles to. -/
inductive Line where
  /-- Blank, or only a comment. -/
  | empty
  | command (w : Word)
  | refused
deriving DecidableEq, Repr

/-- One line (R109). -/
def assembleLine (r : RegMap) (n : UnitCount) (line : String) : Line :=
  match tokens line.toList [] with
  | [] => .empty
  | t :: ts =>
    match parse r n (t :: ts) with
    | some i => .command (encode i)
    | none => .refused

end Sys2Proof.Asm
end

