-- ==== Sys2Proof/Machine/HostOps.lean ====
section
/-! DEFINITION. The host pseudo-operations of 48_host_operations.md: reference functions outside the block (00_scope.md
R5), each a sequence of block commands, run on the machine's own step, and host arithmetic (log 22, 23, 25, 28). -/

namespace Sys2Proof.HostRef

open Sys2Proof.Machine

/-- The accelerometer and gyroscope axes (R198, R199). -/
inductive Axis where
  | x | y | z
deriving DecidableEq, Repr

/-- The host's parameters (00_scope.md R9, R203). -/
structure HostParams where
  regs : RegMap
  /-- `SLEEP_MASK` (D26). -/
  sleepMask : Byte
  /-- `DEADZONE` (P2). -/
  deadzone : Nat
  /-- `AXIS[0]` and `AXIS[1]` (D28, 90_conflicts.md C1). -/
  axis0 : Axis
  axis1 : Axis
  /-- `SPR[u]` (P3). -/
  spr : PerUnit Nat
  /-- `T_LOOP` (P1). -/
  tLoop : Nat
deriving DecidableEq, Repr

/-- Values of the parameters. `SPR` is the source's default (R9). PRESUMED (log 22): the register addresses and
`SLEEP_MASK`, which the spec marks as general knowledge (I3, I25). DESIGN CHOICE (log 22): the two axes, as in program
P3 of 95_test_vectors.md, and `T_LOOP`; `DEADZONE` is the source's example (R203). -/
def defaultParams : HostParams :=
  { regs := Config.defaultRegs, sleepMask := 0x40, deadzone := 2000, axis0 := .x, axis1 := .y,
    spr := { u0 := 4096, u1 := 4096, u2 := 4096, u3 := 4096 }, tLoop := Config.settleExtra + 1 }

/-- Why a pseudo-operation ends without its result. -/
inductive HostStop where
  /-- A command responded `BUS_FAIL` (R190 b). -/
  | busFail
  /-- A command responded `ILLEGAL`. -/
  | illegal
  /-- A command never responds (R205). -/
  | hung
  /-- The host refuses the request itself (R201, I22). -/
  | refused
deriving DecidableEq, Repr

/-- A pseudo-operation's result and the machine after it. -/
inductive HostResult (α : Type) where
  | value (a : α) (s : State)
  | stopped (why : HostStop) (s : State)
deriving DecidableEq, Repr

/-- One step of the machine under these inputs. -/
def advance (p : Inputs) (s : State) : State :=
  match step { s with host := [p] } with
  | .next t => t
  | .fault _ => s
  | .refused _ => s

/-- The command word of `i`, presented. -/
def present (i : Instr) : Inputs := { cmdValid := true, cmdWord := encode i }

/-- The host takes a response that still waits (70_reset_and_hazards.md R270) and drops it: DESIGN CHOICE (log 28). -/
def takeWaiting (s : State) : State := if s.phase = .resp then advance { rspReady := true } s else s

/-- Issue one command, wait for its response, take it (R190 a). A command begun while an older response waits is issued
after that response is taken, and never takes it for its own (log 28). -/
def call {α : Type} (i : Instr) (s : State) (k : Half → State → HostResult α) : HostResult α :=
  let t := advance (present i) (takeWaiting s)
  if t.phase = .resp then
    let v := advance { rspReady := true } t
    match Status.ofCode t.rspStatus with
    | some .ok => k t.rspData v
    | some .busFail => .stopped .busFail v
    | some .illegal => .stopped .illegal v
    | none => .stopped .illegal v
  else .stopped .hung t

/-- The pseudo-operation is over. -/
def done (_ : Half) (s : State) : HostResult Unit := .value () s

/-- The byte of a full-scale range code: `code << 3`, out of range 0 (R191, R192). -/
def rangeByte (code : Int) : Byte := if 0 ≤ code ∧ code ≤ 3 then BitVec.ofInt 8 (code * 8) else 0

/-- The byte of a filter code, out of range 0 (R193). -/
def filterByte (code : Int) : Byte := if 0 ≤ code ∧ code ≤ 6 then BitVec.ofInt 8 code else 0

/-- SETACCELRANGE (R191). -/
def setAccelRange (h : HostParams) (code : Int) (s : State) : HostResult Unit :=
  call (.write h.regs.accelCfg (rangeByte code)) s done

/-- SETGYRORANGE (R192). -/
def setGyroRange (h : HostParams) (code : Int) (s : State) : HostResult Unit :=
  call (.write h.regs.gyroCfg (rangeByte code)) s done

/-- SETFILTER (R193). -/
def setFilter (h : HostParams) (code : Int) (s : State) : HostResult Unit :=
  call (.write h.regs.config (filterByte code)) s done

/-- SETSLEEP (R194): the whole register is written. -/
def setSleep (h : HostParams) (enabled : Bool) (s : State) : HostResult Unit :=
  call (.write h.regs.pwr (if enabled then h.sleepMask else 0)) s done

/-- The range code a range register holds: `d[4:3]` (R195, R196). -/
def rangeCode (d : Half) : BitVec 2 := d.extractLsb' 3 2

/-- The accelerometer sensitivity of a range code (R195). -/
def accelSens (c : BitVec 2) : Nat :=
  match c with
  | 0#2 => 16384
  | 1#2 => 8192
  | 2#2 => 4096
  | 3#2 => 2048

/-- The gyroscope sensitivity of a range code, in tenths: 131.0, 65.5, 32.8, 16.4 (R196, log 23). -/
def gyroSensTenths (c : BitVec 2) : Nat :=
  match c with
  | 0#2 => 1310
  | 1#2 => 655
  | 2#2 => 328
  | 3#2 => 164

/-- GETACCELSENS (R195): the live code, read from the device. -/
def getAccelSens {α : Type} (h : HostParams) (s : State) (k : Nat → State → HostResult α) : HostResult α :=
  call (.read h.regs.accelCfg) s fun d s => k (accelSens (rangeCode d)) s

/-- GETGYROSENS (R196), in tenths. -/
def getGyroSens {α : Type} (h : HostParams) (s : State) (k : Nat → State → HostResult α) : HostResult α :=
  call (.read h.regs.gyroCfg) s fun d s => k (gyroSensTenths (rangeCode d)) s

/-- READRAW (R197). -/
def readRaw {α : Type} (regH : Byte) (s : State) (k : Int → State → HostResult α) : HostResult α :=
  call (.readPair regH) s fun d s => k (s16 d) s

/-- The high register of an axis' accelerometer pair (R198). -/
def accReg (r : RegMap) : Axis → Byte
  | .x => r.accXH
  | .y => r.accYH
  | .z => r.accZH

/-- The high register of an axis' gyroscope pair (R199). -/
def gyrReg (r : RegMap) : Axis → Byte
  | .x => r.gyrXH
  | .y => r.gyrYH
  | .z => r.gyrZH

/-- `trunc(raw * 981 / sens)` (R198). -/
def accValue (raw : Int) (sens : Nat) : Int := (raw * 981).tdiv sens

/-- `trunc(raw / sens)`, the sensitivity in tenths (R199). -/
def gyroValue (raw : Int) (tenths : Nat) : Int := (raw * 10).tdiv tenths

/-- `trunc((raw / 340) + 31.53)`, `raw / 340` truncated first (R200), in exact hundredths. -/
def tempValue (raw : Int) : Int := (raw.tdiv 340 * 100 + 3153).tdiv 100

/-- READACC (R198): the raw read first. -/
def readAcc (h : HostParams) (a : Axis) (s : State) : HostResult Int :=
  readRaw (accReg h.regs a) s fun raw s => getAccelSens h s fun sens s => .value (accValue raw sens) s

/-- READGYRO (R199). -/
def readGyro (h : HostParams) (a : Axis) (s : State) : HostResult Int :=
  readRaw (gyrReg h.regs a) s fun raw s => getGyroSens h s fun sens s => .value (gyroValue raw sens) s

/-- READTEMP (R200). -/
def readTemp (h : HostParams) (s : State) : HostResult Int :=
  readRaw h.regs.tempH s fun raw s => .value (tempValue raw) s

/-- `toSteps(num / den, spr)`: `floor(degrees / 360 * spr)`, exact (R201, log 23). -/
def toSteps (num den spr : Nat) : Nat := num * spr / (360 * den)

/-- ROTATE by `num / den` degrees (R202). A negative angle, or more steps than one STEP holds, is refused by the host
(R201, I22). -/
def rotate (h : HostParams) (u : UnitNo) (d : Direction) (num : Int) (den : Nat) (s : State) : HostResult Unit :=
  if num < 0 ∨ den = 0 ∨ 16777215 < toSteps num.toNat den (h.spr.get u) then .stopped .refused s
  else call (.step u d (BitVec.ofNat 24 (toSteps num.toNat den (h.spr.get u)))) s done

/-- The command one motor gets for a raw sample: strict comparison with the deadzone (R204). -/
def controlCommand (deadzone : Nat) (u : UnitNo) (raw : Int) : Option Instr :=
  if raw > deadzone then some (.step u .ccw 1)
  else if raw < -(deadzone : Int) then some (.step u .cw 1)
  else none

/-- One motor's part of a control cycle (R204). -/
def controlMotor (h : HostParams) (u : UnitNo) (a : Axis) (s : State) (k : State → HostResult Unit) :
    HostResult Unit :=
  readRaw (accReg h.regs a) s fun raw s =>
    match controlCommand h.deadzone u raw with
    | some i => call i s fun _ s => k s
    | none => k s

/-- CONTROLCYCLE (R204): motor 0, then motor 1. -/
def controlCycle (h : HostParams) (s : State) : HostResult Unit :=
  controlMotor h 0 h.axis0 s fun s => controlMotor h 1 h.axis1 s fun s => .value () s

/-- `n` rounds of the control loop (R205): a cycle, then the wait `T_LOOP`. The loop itself has no end (log 25). -/
def controlLoop (h : HostParams) : Nat → State → HostResult Unit
  | 0, s => .value () s
  | n + 1, s =>
    match controlCycle h s with
    | .value _ t => controlLoop h n (advance { wait := h.tLoop } t)
    | .stopped why t => .stopped why t

/-- EMIT for every unit of the block, from unit `u` up (70_reset_and_hazards.md R264 step 4). -/
def emitAll : Nat → State → HostResult Unit
  | 0, s => .value () s
  | n + 1, s =>
    call (.emit (BitVec.ofNat 2 (s.params.nSeq.toNat - (n + 1)))) s fun _ s => emitAll n s

/-- The boot order the spec recommends (R264): reset, wake the sensor, set ranges and filter, drive every port. -/
def boot (h : HostParams) (addr : BusAddr) (accel gyro filter : Int) (s : State) : HostResult Unit :=
  match setSleep h false (advance { rst := .high, cfgDevAddr := addr } s) with
  | .stopped why s => .stopped why s
  | .value _ s =>
    match setAccelRange h accel s with
    | .stopped why s => .stopped why s
    | .value _ s =>
      match setGyroRange h gyro s with
      | .stopped why s => .stopped why s
      | .value _ s =>
        match setFilter h filter s with
        | .stopped why s => .stopped why s
        | .value _ s => emitAll s.params.nSeq.toNat s

end Sys2Proof.HostRef
end

