-- ==== Sys2Proof/Machine/Signals.lean ====
section
/-! DEFINITION. The block's output signals (10_state.md R40 to R44, R46) as functions of the state, and the signals an
event shows (R41). -/

namespace Sys2Proof.Machine

/-- `cmd_ready`: 1 exactly when `rst = 0` and `PHASE = IDLE` (R42). -/
def cmdReady (rst : Bool) (s : State) : Bool := !rst && decide (s.phase = .idle)

/-- `rsp_valid`: 1 exactly when `PHASE = RESP` (R43); 0 while `rst = 1` (R260). -/
def rspValid (rst : Bool) (s : State) : Bool := !rst && decide (s.phase = .resp)

/-- `rsp_status` and `rsp_data`, where they are presented: while `PHASE = RESP` (R36). -/
def rspPresented (s : State) : Option (BitVec 2 × Half) :=
  if s.phase = .resp then some (s.rspStatus, s.rspData) else none

/-- `busy`: 1 while `PHASE != IDLE` (R40); 0 while `rst = 1` (R260). -/
def busy (rst : Bool) (s : State) : Bool := !rst && decide (s.phase ≠ .idle)

/-- `bt_req_valid`: held at 1 until the transport takes the request (R44); 0 while `rst = 1` (R260). -/
def btReqValid (rst : Bool) (s : State) : Bool :=
  !rst && (match s.outstanding with
    | none => false
    | some o => !o.taken)

/-- `bt_req_rw`: 0 a write transaction, 1 a read transaction (R40, R41). -/
def BusRequest.rw : BusRequest → BitVec 1
  | .write _ _ => 0
  | .read _ => 1

/-- `bt_req_addr` (R40, R41). -/
def BusRequest.addr : BusRequest → BusAddr
  | .write a _ => a
  | .read a => a

/-- `bt_req_len`: 1 or 2 for a write, 1 for a read (R40, R41). -/
def BusRequest.len : BusRequest → BitVec 2
  | .write _ bytes => BitVec.ofNat 2 bytes.length
  | .read _ => 1

/-- `bt_req_wdata`: the first byte in [15:8], the second in [7:0]; 0 where there is none (R41). DESIGN CHOICE (log 20):
a read request drives 0. -/
def BusRequest.wdata : BusRequest → Half
  | .write _ (b0 :: b1 :: _) => b0 ++ b1
  | .write _ [b0] => b0 ++ 0#8
  | .write _ [] => 0
  | .read _ => 0

/-- The request an event puts on the bus, where it is a bus event (R41). -/
def Event.request : Event → Option BusRequest
  | .busWrite a bytes _ => some (.write a bytes)
  | .busRead a _ => some (.read a)
  | _ => none

/-- What `bt_rsp_valid`, `bt_rsp_ok` and `bt_rsp_rdata` report at the end of a bus event (R41): `none` where no answer
comes, else whether it succeeded and the byte read. -/
def Event.busResponse : Event → Option (Bool × Option Byte)
  | .busWrite _ _ .ok => some (true, none)
  | .busWrite _ _ .fail => some (false, none)
  | .busRead _ (.ok b) => some (true, some b)
  | .busRead _ .fail => some (false, none)
  | _ => none

/-- One unit's port signals in the cycle an event shows there (R40). -/
structure PortPins where
  wdata : Pattern
  write : Bool
  flush : Bool
deriving DecidableEq, Repr

/-- Unit `v`'s port signals during an event: the event's own unit is strobed, the others stay at 0 (R41, R46). DESIGN
CHOICE (log 27): where the event writes no pattern to unit `v`, its `port_wdata` is 0, the commanded unit's too. -/
def Event.portPins (v : UnitNo) : Event → PortPins
  | .portWrite u p => if u = v then { wdata := p, write := true, flush := false } else { wdata := 0, write := false, flush := false }
  | .portFlush u => { wdata := 0, write := false, flush := decide (u = v) }
  | _ => { wdata := 0, write := false, flush := false }

end Sys2Proof.Machine
end

