-- ==== Sys2Proof/Safety.lean ====
section
/-! DEFINITION. What counts as a sound state and as a safe run, in the terms the statements use. -/

namespace Sys2Proof.Machine

/-- The command is one of the register protocol (30_encoding.md R101): the only ones that use the bus. -/
def isRpm : Instr → Bool
  | .select _ => true
  | .read _ => true
  | .readPair _ => true
  | .write _ _ => true
  | .step _ _ _ => false
  | .emit _ => false

/-- A request the block may have outstanding: to `DEV_ADDR`, and a write of 1 or 2 bytes or a read (20_memory.md R71). -/
def requestLegal (devAddr : BusAddr) : BusRequest → Bool
  | .write a bytes => decide (a = devAddr) && (decide (bytes.length = 1) || decide (bytes.length = 2))
  | .read a => decide (a = devAddr)

/-- The block waits for a bus transaction that never answers (R73, 60_exceptions.md R234). -/
def Stuck (s : State) : Prop := s.phase = .exec ∧ s.outstanding.isSome = true

/-- The port of every unit that has emitted since reset shows the pattern at its index: the written one by
41_step_sequencer.md R167, the flushed one by that rule with the model's reading of a flush (log 10). -/
def PortsShowIndex (s : State) : Prop :=
  ∀ u : UnitNo, (s.portOf u).driven = true →
    (s.portOf u).flushed = rom (s.idxOf u) ∧ (s.portOf u).written = rom (s.idxOf u)

/-- What holds of every state between two steps. -/
structure BlockInvariant (s : State) : Prop where
  /-- The device's register file has its canonical form (log 8). -/
  memory : s.dev.regs.wf = true
  /-- `T_SETTLE` is positive (00_scope.md R9). -/
  settlePositive : 0 < s.params.tSettle
  /-- The settle timer runs only during a `Settle` (R243). -/
  timerStopped : s.timer = 0
  /-- No reset is left over from a command. -/
  noPendingReset : s.pendingReset = none
  /-- `REM` is 0 outside a STEP (R163). -/
  remZero : s.rem = 0
  /-- Status 3 is never produced (R231). -/
  statusLegal : s.rspStatus ≠ 3
  /-- A response that is not `OK` carries 0x0000 (R231). -/
  errorDataZero : s.rspStatus ≠ 0 → s.rspData = 0
  /-- A request is outstanding exactly while the block is in EXEC (R35, R44). -/
  outstandingIffExec : s.outstanding.isSome = true ↔ s.phase = .exec
  /-- The outstanding request is legal (R71). -/
  outstandingLegal : ∀ o, s.outstanding = some o → requestLegal s.devAddr o.req = true
  /-- Only a register protocol command waits on the bus (R160). -/
  execIsRpm : s.phase = .exec → ∃ i, decode s.params.nSeq s.cmd = .ok i ∧ isRpm i = true
  /-- R167, the flushed pattern by log 10. -/
  ports : PortsShowIndex s
  /-- The model's choice (log 17): State has places that belong to no unit, and they are never written. -/
  absentUnits : ∀ u : UnitNo, s.hasUnit u = false → s.idxOf u = 0 ∧ (s.portOf u).driven = false

/-- Nothing disturbs the command that runs from `s`: no reset rises during it (R262), no settle is still running (R243). -/
def Undisturbed (s : State) : Prop := s.pendingReset = none ∧ s.timer = 0

/-- The events of one emission at index `i` (41_step_sequencer.md R162). -/
def emissionEvents (u : UnitNo) (i : SeqIndex) : List Event := [.portWrite u (rom i), .portFlush u]

/-- The index `n` positions from `i` (R165). -/
def indexAfter (d : Direction) (i : SeqIndex) (n : Nat) : SeqIndex := shiftIndex d i (BitVec.ofNat 3 n)

/-- The events of the main phase of a STEP with `q` jumps of 3 (R163, R166). -/
def mainPhaseEvents (u : UnitNo) (d : Direction) (i : SeqIndex) (q : Nat) : List Event :=
  (List.range q).flatMap fun k => emissionEvents u (indexAfter d i (3 * (k + 1))) ++ [.settle u]

/-- The events of a whole STEP before its response (R163, R166). -/
def stepEvents (u : UnitNo) (d : Direction) (i : SeqIndex) (count : StepCount) : List Event :=
  mainPhaseEvents u d i (count.toNat / 3) ++ emissionEvents u (indexAfter d i count.toNat) ++
    (if d = .cw then [.settle u] else [])

/-- How many settles a STEP issues (R166). -/
def settleCount (d : Direction) (count : StepCount) : Nat := count.toNat / 3 + (if d = .cw then 1 else 0)

/-- The patterns a list of events writes to ports, in order. -/
def patternsOf (es : List Event) : List Pattern :=
  es.filterMap fun e =>
    match e with
    | .portWrite _ p => some p
    | _ => none

/-- The event is a port flush. -/
def isFlush : Event → Bool
  | .portFlush _ => true
  | _ => false

/-- The event is a settle. -/
def isSettle : Event → Bool
  | .settle _ => true
  | _ => false

/-- The event is a bus transaction that is never answered (20_memory.md R72, R73). That the history records it so is
the model's (log 12). -/
def isUnanswered : Event → Bool
  | .busWrite _ _ .silent => true
  | .busRead _ .silent => true
  | _ => false

/-- The event is a response. -/
def isRespond : Event → Bool
  | .respond _ _ => true
  | _ => false

/-- The bytes of a command's first bus transaction (40_register_protocol.md R131 to R134). -/
def firstBytes : Instr → Option (List Byte)
  | .select a => some [a]
  | .read a => some [a]
  | .readPair a => some [a]
  | .write a v => some [a, v]
  | .step _ _ _ => none
  | .emit _ => none

/-- No port signal of a unit is driven (10_state.md R46). -/
def quietPins : PortPins := { wdata := 0, write := false, flush := false }

/-- A run the motor claims may rest on: the host has kept the settle duty (R266, R267). -/
def SettleDutyKept (s : State) : Prop := s.hostFaults = []

end Sys2Proof.Machine
end

