-- ==== Sys2Proof/Certificates/Slice0/Obligations.lean ====
section
/-! DEFINITION. The statements for the provers. -/

open Sys2Proof Sys2Proof.Machine Sys2Proof.HostRef

/-! ### Encoding (30_encoding.md) -/

/-- Decoding an encoded well-formed command gives it back: no bit of an encoding is dropped. -/
def Obligations.DecodeOfEncode : Prop :=
  ∀ (n : UnitCount) (i : Instr), i.wellFormed n = true → decode n (encode i) = .ok i

/-- Every legal word is the encoding of the one command it decodes to, and that command is well-formed. -/
def Obligations.EncodeOfDecode : Prop :=
  ∀ (n : UnitCount) (w : Word) (i : Instr), decode n w = .ok i → encode i = w ∧ i.wellFormed n = true

/-- R106, case by case on `OP`. -/
def Obligations.DecodeByOpField : Prop :=
  ∀ (n : UnitCount) (w : Word),
    let op := w.extractLsb' 28 4
    let addr : Byte := w.extractLsb' 16 8
    let unit : UnitNo := w.extractLsb' 26 2
    (op = 0x1 → (decode n w).toOption = if w &&& 0x0F00FFFF = 0 then some (.select addr) else none) ∧
    (op = 0x2 → (decode n w).toOption = if w &&& 0x0F00FFFF = 0 then some (.read addr) else none) ∧
    (op = 0x3 → (decode n w).toOption = if w &&& 0x0F00FFFF = 0 then some (.readPair addr) else none) ∧
    (op = 0x4 → (decode n w).toOption =
      if w &&& 0x0F00FF00 = 0 then some (.write addr (w.extractLsb' 0 8)) else none) ∧
    (op = 0x8 → (decode n w).toOption =
      if w.getLsbD 25 = false ∧ unit.toNat < n.toNat
      then some (.step unit (if w.getLsbD 24 then .ccw else .cw) (w.extractLsb' 0 24)) else none) ∧
    (op = 0x9 → (decode n w).toOption =
      if w &&& 0x03FFFFFF = 0 ∧ unit.toNat < n.toNat then some (.emit unit) else none) ∧
    (op ≠ 0x1 → op ≠ 0x2 → op ≠ 0x3 → op ≠ 0x4 → op ≠ 0x8 → op ≠ 0x9 → (decode n w).toOption = none)

/-- A word spells a command exactly when its row's match and mask say so and, for STEP and EMIT, the unit exists. -/
def Obligations.LegalByMatchAndMask : Prop :=
  ∀ (n : UnitCount) (w : Word),
    let unitOk := (w.extractLsb' 26 2 : UnitNo).toNat < n.toNat
    ((∃ i, decode n w = .ok i) ↔
      (w &&& 0xFF00FFFF = 0x10000000 ∨ w &&& 0xFF00FFFF = 0x20000000 ∨ w &&& 0xFF00FFFF = 0x30000000 ∨
        w &&& 0xFF00FF00 = 0x40000000 ∨ (w &&& 0xF2000000 = 0x80000000 ∧ unitOk) ∨
        (w &&& 0xF3FFFFFF = 0x90000000 ∧ unitOk)))

/-- The sample words of R111. -/
def Obligations.SampleWordsDecode : Prop :=
  decode .two 0x106B0000 = .ok (.select 0x6B) ∧ decode .two 0x201C0000 = .ok (.read 0x1C) ∧
  decode .two 0x303B0000 = .ok (.readPair 0x3B) ∧ decode .two 0x401C0008 = .ok (.write 0x1C 0x08) ∧
  decode .two 0x406B0000 = .ok (.write 0x6B 0x00) ∧ decode .two 0x80000003 = .ok (.step 0 .cw 3) ∧
  decode .two 0x81000008 = .ok (.step 0 .ccw 8) ∧ decode .two 0x84000001 = .ok (.step 1 .cw 1) ∧
  decode .two 0x8500000B = .ok (.step 1 .ccw 11) ∧ decode .two 0x80001000 = .ok (.step 0 .cw 4096) ∧
  decode .two 0x8DFFFFFF = .error .noSuchUnit ∧ decode .four 0x8DFFFFFF = .ok (.step 3 .ccw 16777215) ∧
  decode .two 0x90000000 = .ok (.emit 0) ∧ decode .two 0x94000000 = .ok (.emit 1) ∧
  decode .two 0x00000000 = .error .reservedOp ∧ decode .two 0x50000000 = .error .reservedOp ∧
  decode .two 0x116B0000 = .error .reservedBits ∧ decode .two 0x106B0001 = .error .reservedBits ∧
  decode .two 0x82000003 = .error .reservedBits ∧ decode .two 0x91000000 = .error .reservedBits ∧
  decode .two 0x88000001 = .error .noSuchUnit

/-- A line that is accepted becomes the word of the command it spells; and for operands that are numbers, each line of
R109's list assembles to its command with those numbers where every one is in its field's range, and is refused, never
truncated, where one is not (D37). `a` and `b` are the operands' text; one blank stands where blanks may (log 24). -/
def Obligations.AssembledWordsAreLegal : Prop :=
  (∀ (r : RegMap) (n : UnitCount) (line : String) (w : Word), Asm.assembleLine r n line = .command w →
    ∃ i, Asm.parse r n (Asm.tokens line.toList []) = some i ∧ decode n w = .ok i) ∧
  (∀ (r : RegMap) (n : UnitCount) (a b : List Char) (v w : Nat), Asm.number a = some v → Asm.number b = some w →
    let asm (text : List Char) := Asm.assembleLine r n (String.ofList text)
    asm ("SELECT ".toList ++ a) = (if v ≤ 255 then .command (encode (.select (BitVec.ofNat 8 v))) else .refused) ∧
    asm ("READ ".toList ++ a) = (if v ≤ 255 then .command (encode (.read (BitVec.ofNat 8 v))) else .refused) ∧
    asm ("READPAIR ".toList ++ a) = (if v ≤ 255 then .command (encode (.readPair (BitVec.ofNat 8 v))) else .refused) ∧
    asm ("WRITE ".toList ++ a ++ ", ".toList ++ b) =
      (if v ≤ 255 ∧ w ≤ 255 then .command (encode (.write (BitVec.ofNat 8 v) (BitVec.ofNat 8 w))) else .refused) ∧
    asm ("STEP ".toList ++ a ++ ", CW, ".toList ++ b) =
      (if v < n.toNat ∧ w ≤ 16777215 then .command (encode (.step (BitVec.ofNat 2 v) .cw (BitVec.ofNat 24 w)))
        else .refused) ∧
    asm ("STEP ".toList ++ a ++ ", CCW, ".toList ++ b) =
      (if v < n.toNat ∧ w ≤ 16777215 then .command (encode (.step (BitVec.ofNat 2 v) .ccw (BitVec.ofNat 24 w)))
        else .refused) ∧
    asm ("EMIT ".toList ++ a) = (if v < n.toNat then .command (encode (.emit (BitVec.ofNat 2 v))) else .refused))

/-! ### The step, acceptance and responses (10_state.md) -/

/-- A step runs the command that the presented word decodes to, on the state that has accepted it. -/
def Obligations.StepRunsPresentedCommand : Prop :=
  ∀ (s : State) (i : Instr), s.phase = .idle → s.inputs.rst ≠ .high → s.inputs.cmdValid = true →
    decode s.params.nSeq s.inputs.cmdWord = .ok i →
    step s = exec i (s.arrive.accept s.inputs)

/-- A word put where the next step takes it from is run by that step: the machine is ready, nothing else is asserted. -/
def Obligations.PlacedWordRunsNext : Prop :=
  ∀ (s : State) (nbits w : Nat) (i : Instr),
    decode s.params.nSeq (BitVec.ofNat 32 (w % 2 ^ nbits)) = .ok i →
    step (s.withFetchWord nbits w) =
      exec i { s with phase := .exec, outstanding := none, cmd := BitVec.ofNat 32 (w % 2 ^ nbits), pendingReset := none }

/-- Every step answers a next state: nothing stops the machine (an error is a response, R230; a hang is a state, R234). -/
def Obligations.EveryStepAnswersNext : Prop := ∀ s : State, ∃ t, step s = .next t

/-- R42: when `cmd_ready` is 1, and that a word presented then is accepted and one presented otherwise is not. The
middle clause's `u` is the state with `CMD` and `PHASE` set, from which the word is run. -/
def Obligations.CommandAcceptedOnlyWhenReady : Prop :=
  ∀ s : State,
    (∀ rst, cmdReady rst s = true ↔ rst = false ∧ s.phase = .idle) ∧
    (s.inputs.rst ≠ .high → s.phase = .idle → s.inputs.cmdValid = true →
      ∃ u, u.cmd = s.inputs.cmdWord ∧ u.phase = .exec ∧ u.events = s.events ∧ step s = runAccepted u) ∧
    (s.inputs.rst ≠ .high → s.phase ≠ .idle → ∃ t, step s = .next t ∧ t.cmd = s.cmd ∧ t.events = s.events)

/-- R43: the response handshake, and one response for every accepted command that no reset ends and every one of whose
bus transactions is answered; where the last one issued is not, the block is stuck and has not responded (R234).
`rsp_valid` is 0 under `rst` (R260). That the history records a transaction as unanswered is the model's (log 12). -/
def Obligations.OneResponsePerCommand : Prop :=
  (∀ (s : State) (rst : Bool), rspValid rst s = true ↔ rst = false ∧ s.phase = .resp) ∧
  (∀ s : State, s.inputs.rst ≠ .high → s.phase = .resp → s.inputs.rspReady = true →
    step s = .next { s.arrive with phase := .idle }) ∧
  (∀ s : State, s.inputs.rst ≠ .high → s.phase = .resp → s.inputs.rspReady = false → step s = .next s.arrive) ∧
  (∀ s t : State, s.inputs.rst = .low → s.phase = .idle → s.inputs.cmdValid = true → step s = .next t →
    ∃ es : List Event, (∀ e ∈ es, isRespond e = false) ∧
      ((t.phase = .resp ∧ (∀ e ∈ es, isUnanswered e = false) ∧
          ∃ st d, t.events = s.events ++ es ++ [.respond st d] ∧ t.rspStatus = st.code ∧ t.rspData = d) ∨
        (Stuck t ∧ t.events = s.events ++ es ∧ ∃ e, es.getLast? = some e ∧ isUnanswered e = true)))

/-- With nothing presented and nothing to take, only time and the sensor move. -/
def Obligations.IdleBlockWaits : Prop :=
  ∀ s : State, s.inputs.rst ≠ .high → s.phase = .idle → s.inputs.cmdValid = false → step s = .next s.arrive

/-- An ILLEGAL word: the response, and nothing else (R107). -/
def Obligations.IllegalWordOnlyResponds : Prop :=
  ∀ (s : State) (x : Illegal), s.phase = .idle → s.timer = 0 → s.inputs.rst = .low → s.inputs.cmdValid = true →
    decode s.params.nSeq s.inputs.cmdWord = .error x →
    step s = .next { s.arrive with
      cmd := s.inputs.cmdWord
      phase := .resp
      rspStatus := 2
      rspData := 0
      events := s.events ++ [.respond .illegal 0]
      pendingReset := none }

/-- A STEP or EMIT for a unit the block does not have has no effect but the ILLEGAL response, however it is reached. The
spec says so of the word; that `exec` says it of the command too is the model's (log 16). -/
def Obligations.AbsentUnitIsIllegal : Prop :=
  ∀ (u : UnitNo) (d : Direction) (c : StepCount) (s : State), Undisturbed s → s.hasUnit u = false →
    exec (.step u d c) s = .next { s with
      phase := .resp, rspStatus := 2, rspData := 0, events := s.events ++ [.respond .illegal 0] } ∧
    exec (.emit u) s = .next { s with
      phase := .resp, rspStatus := 2, rspData := 0, events := s.events ++ [.respond .illegal 0] }

/-- Status codes (R231): three are produced, in every response of every step; error responses carry 0x0000. -/
def Obligations.ResponseStatusesAndData : Prop :=
  (Status.ok.code = 0 ∧ Status.busFail.code = 1 ∧ Status.illegal.code = 2) ∧
  (∀ (s t : State) (es : List Event) (st : Status) (d : Half), step s = .next t → t.events = s.events ++ es →
    .respond st d ∈ es → t.rspStatus = st.code ∧ t.rspData = d ∧ (st ≠ .ok → d = 0))

/-! ### Register protocol commands (40_register_protocol.md) -/

/-- SELECT, answered: the exact next state. -/
def Obligations.SelectCompletes : Prop :=
  ∀ (a : Byte) (s : State), Undisturbed s → drawWriteAnswer (s.drawAt 0) = .ok →
    exec (.select a) s = .next { s with
      phase := .resp
      rspStatus := 0
      rspData := 0
      events := s.events ++ [.busWrite s.devAddr [a] .ok, .respond .ok 0]
      dev := drawDeviceAfterWrite s.dev [a] (s.drawAt 0)
      bus := s.bus.tail
      draws := s.draws + 1 }

/-- WRITE, answered: the address byte first, one transaction; the exact next state. -/
def Obligations.WriteCompletes : Prop :=
  ∀ (a v : Byte) (s : State), Undisturbed s → drawWriteAnswer (s.drawAt 0) = .ok →
    exec (.write a v) s = .next { s with
      phase := .resp
      rspStatus := 0
      rspData := 0
      events := s.events ++ [.busWrite s.devAddr [a, v] .ok, .respond .ok 0]
      dev := drawDeviceAfterWrite s.dev [a, v] (s.drawAt 0)
      bus := s.bus.tail
      draws := s.draws + 1 }

/-- READ, answered: the byte zero-extended; the exact next state. -/
def Obligations.ReadCompletes : Prop :=
  ∀ (a b : Byte) (s : State), Undisturbed s → drawWriteAnswer (s.drawAt 0) = .ok →
    drawReadAnswer (drawDeviceAfterWrite s.dev [a] (s.drawAt 0)) (s.drawAt 1) = .ok b →
    exec (.read a) s = .next { s with
      phase := .resp
      rspStatus := 0
      rspData := b.setWidth 16
      events := s.events ++ [.busWrite s.devAddr [a] .ok, .busRead s.devAddr (.ok b), .respond .ok (b.setWidth 16)]
      dev := drawDeviceAfterRead (drawDeviceAfterWrite s.dev [a] (s.drawAt 0)) (s.drawAt 1)
      bus := s.bus.tail.tail
      draws := s.draws + 2 }

/-- READPAIR, answered: three transactions with nothing between, `HI` the first byte, the data high byte first and read
as two's complement by `s16`; the exact next state. -/
def Obligations.ReadPairCompletes : Prop :=
  ∀ (a hi lo : Byte) (s : State), Undisturbed s → drawWriteAnswer (s.drawAt 0) = .ok →
    drawReadAnswer (drawDeviceAfterWrite s.dev [a] (s.drawAt 0)) (s.drawAt 1) = .ok hi →
    drawReadAnswer (drawDeviceAfterRead (drawDeviceAfterWrite s.dev [a] (s.drawAt 0)) (s.drawAt 1)) (s.drawAt 2) =
      .ok lo →
    exec (.readPair a) s = .next { s with
      phase := .resp
      rspStatus := 0
      rspData := hi ++ lo
      hi := hi
      events := s.events ++ [.busWrite s.devAddr [a] .ok, .busRead s.devAddr (.ok hi), .busRead s.devAddr (.ok lo),
        .respond .ok (hi ++ lo)]
      dev := drawDeviceAfterRead
        (drawDeviceAfterRead (drawDeviceAfterWrite s.dev [a] (s.drawAt 0)) (s.drawAt 1)) (s.drawAt 2)
      bus := s.bus.tail.tail.tail
      draws := s.draws + 3 } ∧
    s16 (hi ++ lo) =
      if 256 * hi.toNat + lo.toNat < 32768 then (256 * hi.toNat + lo.toNat : Int)
      else (256 * hi.toNat + lo.toNat : Int) - 65536

/-- A first transaction that fails ends any register command: no later transaction, `BUS_FAIL`, 0x0000. -/
def Obligations.FailedWriteEndsCommand : Prop :=
  ∀ (i : Instr) (bytes : List Byte) (s : State), firstBytes i = some bytes → Undisturbed s →
    drawWriteAnswer (s.drawAt 0) = .fail →
    exec i s = .next { s with
      phase := .resp
      rspStatus := 1
      rspData := 0
      events := s.events ++ [.busWrite s.devAddr bytes .fail, .respond .busFail 0]
      dev := drawDeviceAfterWrite s.dev bytes (s.drawAt 0)
      bus := s.bus.tail
      draws := s.draws + 1 }

/-- A first read that fails ends READ and READPAIR alike; `HI` is unchanged. -/
def Obligations.FailedFirstReadEndsCommand : Prop :=
  ∀ (a : Byte) (s : State), Undisturbed s → drawWriteAnswer (s.drawAt 0) = .ok →
    drawReadAnswer (drawDeviceAfterWrite s.dev [a] (s.drawAt 0)) (s.drawAt 1) = .fail →
    ∀ i, i = Instr.read a ∨ i = Instr.readPair a →
    exec i s = .next { s with
      phase := .resp
      rspStatus := 1
      rspData := 0
      events := s.events ++ [.busWrite s.devAddr [a] .ok, .busRead s.devAddr .fail, .respond .busFail 0]
      dev := drawDeviceAfterRead (drawDeviceAfterWrite s.dev [a] (s.drawAt 0)) (s.drawAt 1)
      bus := s.bus.tail.tail
      draws := s.draws + 2 }

/-- A second read that fails ends READPAIR: the high byte stays in `HI` and is not in the response. -/
def Obligations.FailedSecondReadEndsReadPair : Prop :=
  ∀ (a hi : Byte) (s : State), Undisturbed s → drawWriteAnswer (s.drawAt 0) = .ok →
    drawReadAnswer (drawDeviceAfterWrite s.dev [a] (s.drawAt 0)) (s.drawAt 1) = .ok hi →
    drawReadAnswer (drawDeviceAfterRead (drawDeviceAfterWrite s.dev [a] (s.drawAt 0)) (s.drawAt 1)) (s.drawAt 2) =
      .fail →
    exec (.readPair a) s = .next { s with
      phase := .resp
      rspStatus := 1
      rspData := 0
      hi := hi
      events := s.events ++ [.busWrite s.devAddr [a] .ok, .busRead s.devAddr (.ok hi), .busRead s.devAddr .fail,
        .respond .busFail 0]
      dev := drawDeviceAfterRead
        (drawDeviceAfterRead (drawDeviceAfterWrite s.dev [a] (s.drawAt 0)) (s.drawAt 1)) (s.drawAt 2)
      bus := s.bus.tail.tail.tail
      draws := s.draws + 3 }

/-- A first transaction that is never answered leaves the block waiting on it, with no response: exactly that request
is outstanding, and `bt_req_valid` is 1 unless the transport took it (R41, R44). The record of the transaction as
unanswered is the model's (log 12). -/
def Obligations.UnansweredWriteHangs : Prop :=
  ∀ (i : Instr) (bytes : List Byte) (s : State), firstBytes i = some bytes → Undisturbed s → s.phase = .exec →
    drawWriteAnswer (s.drawAt 0) = .silent →
    ∃ t, exec i s = .next t ∧ Stuck t ∧
      t.outstanding = some { req := .write s.devAddr bytes, taken := drawTaken (s.drawAt 0) } ∧
      btReqValid false t = !drawTaken (s.drawAt 0) ∧
      t.events = s.events ++ [.busWrite s.devAddr bytes .silent] ∧
      t.rspStatus = s.rspStatus ∧ t.rspData = s.rspData ∧ t.idx = s.idx ∧ t.ports = s.ports

/-- A read that is never answered leaves the block waiting on it, with no response: the read of READ, and either read of
READPAIR. Exactly that read is outstanding, and `bt_req_valid` is 1 unless the transport took it (R41, R44). The record
of the transaction as unanswered is the model's (log 12). -/
def Obligations.UnansweredReadHangs : Prop :=
  ∀ (a : Byte) (s : State), Undisturbed s → s.phase = .exec → drawWriteAnswer (s.drawAt 0) = .ok →
    let d1 := drawDeviceAfterWrite s.dev [a] (s.drawAt 0)
    (drawReadAnswer d1 (s.drawAt 1) = .silent → ∀ i, i = Instr.read a ∨ i = Instr.readPair a →
      ∃ t, exec i s = .next t ∧ Stuck t ∧
        t.outstanding = some { req := .read s.devAddr, taken := drawTaken (s.drawAt 1) } ∧
        btReqValid false t = !drawTaken (s.drawAt 1) ∧
        t.events = s.events ++ [.busWrite s.devAddr [a] .ok, .busRead s.devAddr .silent] ∧ t.hi = s.hi ∧
        t.rspStatus = s.rspStatus ∧ t.rspData = s.rspData) ∧
    (∀ hi, drawReadAnswer d1 (s.drawAt 1) = .ok hi →
      drawReadAnswer (drawDeviceAfterRead d1 (s.drawAt 1)) (s.drawAt 2) = .silent →
      ∃ t, exec (.readPair a) s = .next t ∧ Stuck t ∧
        t.outstanding = some { req := .read s.devAddr, taken := drawTaken (s.drawAt 2) } ∧
        btReqValid false t = !drawTaken (s.drawAt 2) ∧
        t.events = s.events ++ [.busWrite s.devAddr [a] .ok, .busRead s.devAddr (.ok hi), .busRead s.devAddr .silent] ∧
        t.hi = hi ∧ t.rspStatus = s.rspStatus ∧ t.rspData = s.rspData)

/-- A stuck block stays stuck, busy and not ready, and issues nothing, until reset, which frees it (R73, R234). -/
def Obligations.OnlyResetFreesAStuckBlock : Prop :=
  ∀ s : State, Stuck s →
    (busy false s = true ∧ cmdReady false s = false) ∧
    (s.inputs.rst ≠ .high → ∃ t, step s = .next t ∧ Stuck t ∧ t.events = s.events ∧ t.outstanding = s.outstanding) ∧
    (s.inputs.rst = .high → ∃ t, step s = .next t ∧ t.phase = .idle ∧ t.outstanding = none ∧ t.events = s.events)

/-- What no register command changes, however its transactions are answered; `HI` changes only in READPAIR. -/
def Obligations.RpmFrame : Prop :=
  ∀ (i : Instr) (s t : State), isRpm i = true → Undisturbed s → exec i s = .next t →
    t.idx = s.idx ∧ t.ports = s.ports ∧ t.rem = s.rem ∧ t.devAddr = s.devAddr ∧ t.cmd = s.cmd ∧ t.timer = s.timer ∧
      t.params = s.params ∧ t.hostFaults = s.hostFaults ∧ t.host = s.host ∧ ((∀ a, i ≠ .readPair a) → t.hi = s.hi)

/-- Two register commands behave alike whatever ran before them, given the same device and the same answers (R136). -/
def Obligations.RpmForgetsThePast : Prop :=
  ∀ (i : Instr) (s s' t t' : State), isRpm i = true → Undisturbed s → Undisturbed s' → s.phase = .exec →
    s'.phase = .exec → s.devAddr = s'.devAddr → s.dev = s'.dev → (∀ n, s.drawAt n = s'.drawAt n) →
    exec i s = .next t → exec i s' = .next t' →
    (∃ es, t.events = s.events ++ es ∧ t'.events = s'.events ++ es) ∧ t.dev = t'.dev ∧ t.phase = t'.phase ∧
      (t.phase = .resp → t.rspStatus = t'.rspStatus ∧ t.rspData = t'.rspData)

/-- With the reference device of R76 answering, SELECT, READ and READPAIR change no device register and WRITE changes
exactly the one it addresses. The pointer ends where R76 says. -/
def Obligations.ReferenceDeviceRegisters : Prop :=
  ∀ (a v : Byte) (s t : State), Undisturbed s → (∀ n, n < 3 → s.drawAt n = .reference) →
    (exec (.select a) s = .next t → t.dev.ptr = a ∧ ∀ x, t.dev.reg x = s.dev.reg x) ∧
    (exec (.read a) s = .next t → t.dev.ptr = a + 1 ∧ ∀ x, t.dev.reg x = s.dev.reg x) ∧
    (exec (.readPair a) s = .next t → t.dev.ptr = a + 2 ∧ ∀ x, t.dev.reg x = s.dev.reg x) ∧
    (exec (.write a v) s = .next t →
      t.dev.ptr = a + 1 ∧ t.dev.reg a = v ∧ ∀ x, x ≠ a → t.dev.reg x = s.dev.reg x)

/-- With the reference device of R76 answering, READ responds the register, READPAIR the register and the next one. -/
def Obligations.ReferenceDeviceReads : Prop :=
  ∀ (a : Byte) (s : State), Undisturbed s → (∀ n, n < 3 → s.drawAt n = .reference) →
    (∃ t, exec (.read a) s = .next t ∧ t.phase = .resp ∧ t.rspStatus = 0 ∧ t.rspData = (s.dev.reg a).setWidth 16) ∧
    (∃ t, exec (.readPair a) s = .next t ∧ t.phase = .resp ∧ t.rspStatus = 0 ∧
      t.rspData = s.dev.reg a ++ s.dev.reg (a + 1) ∧ t.hi = s.dev.reg a)

/-- With the reference device, READPAIR gives the bytes of two READs (R86). -/
def Obligations.ReadPairIsTwoReads : Prop :=
  ∀ (a : Byte) (s p r q : State), Undisturbed s → (∀ n, n < 4 → s.drawAt n = .reference) →
    exec (.readPair a) s = .next p → exec (.read a) s = .next r → exec (.read (a + 1)) r = .next q →
    p.rspData = (r.rspData <<< 8) ||| q.rspData

/-! ### Step sequencer commands (41_step_sequencer.md) -/

/-- STEP: the exact next state. The index moves by the count modulo 8, the events are those of R163 in closed form, the
port shows the final pattern; other units' settle duties grow older by the settles' time; a counter-clockwise STEP
leaves the host the settle duty; a duty unmet at acceptance is recorded. -/
def Obligations.StepCompletes : Prop :=
  ∀ (u : UnitNo) (d : Direction) (c : StepCount) (s : State), Undisturbed s → s.hasUnit u = true →
    exec (.step u d c) s = .next { s with
      idx := s.idx.set u (indexAfter d (s.idxOf u) c.toNat)
      phase := .resp
      rem := 0
      rspStatus := 0
      rspData := 0
      ports := (s.ports.map (Port.age (settleCount d c * s.params.tSettle))).set u
        { written := rom (indexAfter d (s.idxOf u) c.toNat)
          flushed := rom (indexAfter d (s.idxOf u) c.toNat)
          driven := true
          duty := if d = .cw then none else some 0 }
      events := s.events ++ stepEvents u d (s.idxOf u) c ++ [.respond .ok 0]
      hostFaults := if dutyUnmet s.params.tSettle (s.portOf u) then s.hostFaults ++ [.settleTooSoon u]
        else s.hostFaults }

/-- EMIT: the exact next state. The index stays; the first emission since reset leaves the host the settle duty. -/
def Obligations.EmitCompletes : Prop :=
  ∀ (u : UnitNo) (s : State), Undisturbed s → s.hasUnit u = true →
    exec (.emit u) s = .next { s with
      phase := .resp
      rspStatus := 0
      rspData := 0
      ports := s.ports.set u
        { written := rom (s.idxOf u)
          flushed := rom (s.idxOf u)
          driven := true
          duty := if (s.portOf u).driven then (s.portOf u).duty else some 0 }
      events := s.events ++ [.portWrite u (rom (s.idxOf u)), .portFlush u, .respond .ok 0] }

/-- How many emissions and settles a STEP issues, and the pattern of each emission (R166). -/
def Obligations.StepEventCounts : Prop :=
  ∀ (u : UnitNo) (d : Direction) (c : StepCount) (s t : State), Undisturbed s → s.hasUnit u = true →
    exec (.step u d c) s = .next t →
    ∃ es, t.events = s.events ++ es ∧
      patternsOf es = ((List.range (c.toNat / 3)).map fun k => rom (indexAfter d (s.idxOf u) (3 * (k + 1)))) ++
        [rom (indexAfter d (s.idxOf u) c.toNat)] ∧
      es.countP isFlush = c.toNat / 3 + 1 ∧
      es.countP isSettle = (match d with
        | .cw => c.toNat / 3 + 1
        | .ccw => c.toNat / 3)

/-- The final index depends on the count modulo 8 only, and a STEP one way followed by the same STEP the other way
restores it (R165). -/
def Obligations.StepThereAndBack : Prop :=
  (∀ (u : UnitNo) (d : Direction) (c c' : StepCount) (s t t' : State), Undisturbed s → s.hasUnit u = true →
    c.toNat % 8 = c'.toNat % 8 → exec (.step u d c) s = .next t → exec (.step u d c') s = .next t' →
    t.idx = t'.idx) ∧
  (∀ (u : UnitNo) (d d' : Direction) (c : StepCount) (s t r : State), Undisturbed s → s.hasUnit u = true → d ≠ d' →
    exec (.step u d c) s = .next t → exec (.step u d' c) t = .next r → r.idx = s.idx)

/-- A command for one unit, run to its end, leaves every other unit's index and patterns alone (R169). -/
def Obligations.UnitsAreIndependent : Prop :=
  ∀ (u v : UnitNo) (d : Direction) (c : StepCount) (s t : State), v ≠ u → Undisturbed s →
    (exec (.step u d c) s = .next t ∨ exec (.emit u) s = .next t) →
    t.idxOf v = s.idxOf v ∧ (t.portOf v).written = (s.portOf v).written ∧ (t.portOf v).flushed = (s.portOf v).flushed ∧
      (t.portOf v).driven = (s.portOf v).driven

/-- What STEP and EMIT change no part of: the bus side, the device, `HI`, `CMD`, `DEV_ADDR`; and they issue no bus
transaction and respond OK with 0x0000 (R160). -/
def Obligations.SeqFrame : Prop :=
  ∀ (u : UnitNo) (d : Direction) (c : StepCount) (s t : State), Undisturbed s → s.hasUnit u = true →
    (exec (.step u d c) s = .next t ∨ exec (.emit u) s = .next t) →
    t.dev = s.dev ∧ (∀ a, t.dev.reg a = s.dev.reg a) ∧ t.bus = s.bus ∧ t.draws = s.draws ∧ t.hi = s.hi ∧
      t.cmd = s.cmd ∧ t.devAddr = s.devAddr ∧ t.outstanding = s.outstanding ∧ t.params = s.params ∧ t.timer = 0 ∧
      t.phase = .resp ∧ t.rspStatus = 0 ∧ t.rspData = 0 ∧
      ∃ es, t.events = s.events ++ es ∧ ∀ e ∈ es, e.request = none

/-- During a command for one unit every other unit's port signals stay at 0, and bit `i` of a pattern drives line `i`
(R46). -/
def Obligations.OtherPortsStayQuiet : Prop :=
  (∀ (u v : UnitNo) (d : Direction) (c : StepCount) (s t : State), v ≠ u → Undisturbed s →
    (exec (.step u d c) s = .next t ∨ exec (.emit u) s = .next t) →
    ∃ es, t.events = s.events ++ es ∧ ∀ e ∈ es, e.portPins v = quietPins) ∧
  (∀ (p : Pattern) (i : Nat), portLine p i = p.getLsbD i)

/-- The transition table of R168: from each index, the new index and pattern after +3, -3, +1, +2, -1, -2. -/
def Obligations.TransitionTable : Prop :=
  let row (i : SeqIndex) : List (SeqIndex × Pattern) :=
    [shiftIndex .cw i 3, shiftIndex .ccw i 3, shiftIndex .cw i 1, shiftIndex .cw i 2, shiftIndex .ccw i 1,
      shiftIndex .ccw i 2].map fun j => (j, rom j)
  row 0 = [(3, 6), (5, 12), (1, 3), (2, 2), (7, 9), (6, 8)] ∧
  row 1 = [(4, 4), (6, 8), (2, 2), (3, 6), (0, 1), (7, 9)] ∧
  row 2 = [(5, 12), (7, 9), (3, 6), (4, 4), (1, 3), (0, 1)] ∧
  row 3 = [(6, 8), (0, 1), (4, 4), (5, 12), (2, 2), (1, 3)] ∧
  row 4 = [(7, 9), (1, 3), (5, 12), (6, 8), (3, 6), (2, 2)] ∧
  row 5 = [(0, 1), (2, 2), (6, 8), (7, 9), (4, 4), (3, 6)] ∧
  row 6 = [(1, 3), (3, 6), (7, 9), (0, 1), (5, 12), (4, 4)] ∧
  row 7 = [(2, 2), (4, 4), (0, 1), (1, 3), (6, 8), (5, 12)]

/-- The pattern ROM (R33), and that circular neighbours differ in exactly one line (R34). -/
def Obligations.PatternRom : Prop :=
  [0, 1, 2, 3, 4, 5, 6, 7].map rom = [1, 3, 2, 6, 4, 12, 8, 9] ∧
  ∀ k : SeqIndex, ((List.range 4).filter fun i => portLine (rom k) i != portLine (rom (k + 1)) i).length = 1

/-! ### The settle duty (70_reset_and_hazards.md) -/

/-- R267: whether the host has kept the settle duty changes nothing a STEP does to the block; a breach is recorded,
and nothing else is. `x` is any other history of the duty. When a record is made is R266 with the model's bookkeeping of
the duty (log 14). -/
def Obligations.SettleBreachOnlyRecorded : Prop :=
  ∀ (u : UnitNo) (d : Direction) (c : StepCount) (x : Option Nat) (s t t' : State), Undisturbed s →
    s.hasUnit u = true → exec (.step u d c) s = .next t →
    exec (.step u d c) (s.setPort u { s.portOf u with duty := x }) = .next t' →
    t' = { t with hostFaults := t'.hostFaults } ∧
      t'.hostFaults = (match x with
        | none => s.hostFaults
        | some k => if k < s.params.tSettle then s.hostFaults ++ [.settleTooSoon u] else s.hostFaults)

/-- After a counter-clockwise STEP on a unit, a STEP on it with less than `T_SETTLE` passed in between is a breach, and
one after `T_SETTLE` or more is none (R266). -/
def Obligations.SettleDutyAfterCounterclockwise : Prop :=
  ∀ (u : UnitNo) (d : Direction) (c c' : StepCount) (wait : Nat) (s t r : State), Undisturbed s → s.hasUnit u = true →
    exec (.step u .ccw c) s = .next t → exec (.step u d c') (t.elapse wait) = .next r →
    (wait < s.params.tSettle → r.hostFaults = t.hostFaults ++ [.settleTooSoon u]) ∧
    (s.params.tSettle ≤ wait → r.hostFaults = t.hostFaults)

/-! ### Reset (70_reset_and_hazards.md) -/

/-- Right after reset (R47): every register the spec gives a value, and the outputs. -/
def Obligations.ResetValues : Prop :=
  let s := State.reset
  (∀ u, s.idxOf u = 0) ∧ s.phase = .idle ∧ s.cmd = 0 ∧ s.rem = 0 ∧ s.hi = 0 ∧ s.rspStatus = 0 ∧ s.rspData = 0 ∧
    s.timer = 0 ∧ s.outstanding = none ∧ s.events = [] ∧ s.dev.regs.wf = true ∧ cmdReady true s = false ∧
    cmdReady false s = true ∧ rspValid false s = false ∧ btReqValid false s = false ∧ s.params.nSeq = .two

/-- R260: one step with `rst` high sets every register of the block, from any state whatever; while it is high the
outputs are 0. -/
def Obligations.ResetSetsEveryRegister : Prop :=
  ∀ s : State, s.inputs.rst = .high →
    ∃ t, step s = .next t ∧ t.devAddr = s.inputs.cfgDevAddr ∧ (∀ u, t.idxOf u = 0) ∧ t.phase = .idle ∧ t.cmd = 0 ∧
      t.rem = 0 ∧ t.hi = 0 ∧ t.rspStatus = 0 ∧ t.rspData = 0 ∧ t.timer = 0 ∧ t.outstanding = none ∧
      (cmdReady true t = false ∧ rspValid true t = false ∧ btReqValid true t = false ∧ busy true t = false) ∧
      cmdReady false t = true ∧ rspValid false t = false ∧ busy false t = false

/-- R261: reset issues no event, and the device's registers and the ports keep whatever state they had. The sensor may
move on its own before the step (`arrive`). -/
def Obligations.ResetIssuesNoEvent : Prop :=
  ∀ s : State, s.inputs.rst = .high →
    ∃ t, step s = .next t ∧ t.events = s.events ∧ t.dev = s.arrive.dev ∧
      (s.inputs.sensor = [] → t.dev = s.dev) ∧
      ∀ u, (t.portOf u).written = (s.portOf u).written ∧ (t.portOf u).flushed = (s.portOf u).flushed

/-- R262: a reset that rises during any command ends it with no response; the events already issued, `k` of them,
stand, and the registers are at their reset values. The first clause says so of whatever run a reset ends. The second
says which runs it ends: with `es` the events that the command issues when no reset comes (its response among them, if it
responds), a reset after `k` of them ends it whenever `k` is less than their number, with exactly the first `k` issued.
That a reset falls between two events, after a number of them, is the model's (log 11). -/
def Obligations.ResetDuringCommand : Prop :=
  (∀ (i : Instr) (s t : State) (k : Nat) (a : BusAddr), s.phase = .exec → s.pendingReset = some (k, a) →
    exec i s = .next t → t.phase = .idle →
    (∃ es, t.events = s.events ++ es ∧ es.length = k ∧ ∀ e ∈ es, isRespond e = false) ∧
      t.devAddr = a ∧ (∀ u, t.idxOf u = 0) ∧ t.cmd = 0 ∧ t.rem = 0 ∧ t.hi = 0 ∧ t.rspStatus = 0 ∧ t.rspData = 0 ∧
      t.timer = 0 ∧ t.outstanding = none ∧ t.pendingReset = none) ∧
  (∀ (i : Instr) (s r : State) (k : Nat) (a : BusAddr) (es : List Event), s.pendingReset = some (k, a) →
    exec i { s with pendingReset := none } = .next r → r.events = s.events ++ es → k < es.length →
    ∃ t, exec i s = .next t ∧ t.phase = .idle ∧ t.events = s.events ++ es.take k ∧ t.devAddr = a ∧
      (∀ u, t.idxOf u = 0) ∧ t.cmd = 0 ∧ t.rem = 0 ∧ t.hi = 0 ∧ t.rspStatus = 0 ∧ t.rspData = 0 ∧ t.timer = 0 ∧
      t.outstanding = none ∧ t.pendingReset = none)

/-- A reset that rises during a STEP before its response ends it where it stands: exactly the first `k` events of the
STEP have been issued, at whatever point that is (R262). -/
def Obligations.ResetCutsStepShort : Prop :=
  ∀ (u : UnitNo) (d : Direction) (c : StepCount) (s : State) (k : Nat) (a : BusAddr), s.hasUnit u = true →
    s.pendingReset = some (k, a) → k ≤ (stepEvents u d (s.idxOf u) c).length →
    ∃ t, exec (.step u d c) s = .next t ∧ t.phase = .idle ∧ (∀ v, t.idxOf v = 0) ∧
      t.events = s.events ++ (stepEvents u d (s.idxOf u) c).take k

/-- EMIT right after reset drives the first pattern (R265). That the flushed pattern is the written one is log 10. -/
def Obligations.EmitAfterResetDrivesFirstPattern : Prop :=
  ∀ (u : UnitNo) (a : BusAddr) (s : State), s.hasUnit u = true →
    ∃ t, exec (.emit u) (resetBlock a s) = .next t ∧ t.events = s.events ++ [.portWrite u 1, .portFlush u, .respond .ok 0] ∧
      (t.portOf u).flushed = 1

/-! ### Whole-machine rules -/

/-- The invariant holds right after reset. -/
def Obligations.InvariantAtReset : Prop := BlockInvariant State.reset

/-- Every step keeps the invariant: the register file's canonical form (the model's, log 8), the settle timer stopped and `REM` 0 between
commands, status 3 never produced, errors without data, a legal request outstanding exactly in EXEC and only for a
register command, every driven port showing the pattern at its index (the flushed one by log 10), the places of absent
units untouched (the model's, log 17). -/
def Obligations.StepKeepsInvariant : Prop := ∀ s t : State, BlockInvariant s → step s = .next t → BlockInvariant t

/-- Events are only ever added, and every bus transaction added by any step is addressed to `DEV_ADDR` and is a write
of 1 or 2 bytes or a read of 1 (R71). -/
def Obligations.BusTransactionsAreLegal : Prop :=
  ∀ s t : State, step s = .next t →
    ∃ es, t.events = s.events ++ es ∧ ∀ e ∈ es, ∀ r, e.request = some r → requestLegal s.devAddr r = true

/-- `DEV_ADDR` is loaded only by a reset, from `cfg_dev_addr`; `N_SEQ` and `T_SETTLE` never change (R31, R38). -/
def Obligations.AddressAndParametersFixed : Prop :=
  ∀ s t : State, step s = .next t →
    t.params = s.params ∧ (t.devAddr = s.devAddr ∨ (s.inputs.rst ≠ .low ∧ t.devAddr = s.inputs.cfgDevAddr))

/-- Only STEP and reset write an index (R32): a step with no reset that accepts no STEP leaves every index, be it that
nothing is accepted (another phase than IDLE, a stuck block included, or nothing presented) or another word. -/
def Obligations.OnlyStepAndResetMoveAnIndex : Prop :=
  ∀ s t : State, step s = .next t → s.inputs.rst = .low →
    (s.phase ≠ .idle ∨ s.inputs.cmdValid = false ∨
      ∀ u d c, decode s.params.nSeq s.inputs.cmdWord ≠ .ok (.step u d c)) → t.idx = s.idx

/-- The signals of a bus request (R41). -/
def Obligations.RequestSignals : Prop :=
  ∀ (d : BusAddr) (a v : Byte),
    (BusRequest.write d [a]).rw = 0 ∧ (BusRequest.write d [a]).addr = d ∧ (BusRequest.write d [a]).len = 1 ∧
    (BusRequest.write d [a]).wdata = a ++ (0 : Byte) ∧
    (BusRequest.write d [a, v]).rw = 0 ∧ (BusRequest.write d [a, v]).addr = d ∧ (BusRequest.write d [a, v]).len = 2 ∧
    (BusRequest.write d [a, v]).wdata = a ++ v ∧
    (BusRequest.read d).rw = 1 ∧ (BusRequest.read d).addr = d ∧ (BusRequest.read d).len = 1

/-! ### Host reference operations (48_host_operations.md, outside the block) -/

/-- After SETACCELRANGE, GETACCELSENS answers `16384 >> code`, and 16384 for a code out of range, with the reference
device answering (R191, R195). -/
def Obligations.AccelSensitivityAfterRange : Prop :=
  ∀ (h : HostParams) (code : Int) (s : State), s.phase = .idle → (∀ n, n < 3 → s.drawAt n = .reference) →
    ∃ t r, setAccelRange h code s = .value () t ∧
      getAccelSens h t (fun n s => HostResult.value n s) =
        .value (if 0 ≤ code ∧ code ≤ 3 then 16384 >>> code.toNat else 16384) r

/-- READACC's result fits in 16 bits (R198). -/
def Obligations.AccelerationFits : Prop :=
  ∀ (raw : Half) (c : BitVec 2),
    -15696 ≤ accValue (s16 raw) (accelSens c) ∧ accValue (s16 raw) (accelSens c) ≤ 15696

/-- A control cycle steps a motor only outside the deadzone, by strict comparison (R204). -/
def Obligations.ControlCommandStrict : Prop :=
  ∀ (dz : Nat) (u : UnitNo) (raw : Int),
    (controlCommand dz u raw = some (.step u .ccw 1) ↔ raw > dz) ∧
    (controlCommand dz u raw = some (.step u .cw 1) ↔ raw < -(dz : Int)) ∧
    (controlCommand dz u raw = none ↔ -(dz : Int) ≤ raw ∧ raw ≤ dz)

/-! ### The assembler's names and comments (30_encoding.md R109) -/

/-- The `REG_*` names of 20_memory.md R78 stand for their addresses, the low register of a pair for the high one's plus
1 (0x00 after 0xFF: the model's, log 29); and what follows a `;` plays no part. -/
def Obligations.AssemblerNamesAndComments : Prop :=
  (∀ (r : RegMap) (n : UnitCount) (name : String) (b : Byte),
    (name, b) ∈ [("REG_PWR", r.pwr), ("REG_CONFIG", r.config), ("REG_GYRO_CFG", r.gyroCfg), ("REG_ACCEL_CFG", r.accelCfg),
      ("REG_ACC_X_H", r.accXH), ("REG_ACC_X_L", r.accXH + 1), ("REG_ACC_Y_H", r.accYH), ("REG_ACC_Y_L", r.accYH + 1),
      ("REG_ACC_Z_H", r.accZH), ("REG_ACC_Z_L", r.accZH + 1), ("REG_TEMP_H", r.tempH), ("REG_TEMP_L", r.tempH + 1),
      ("REG_GYR_X_H", r.gyrXH), ("REG_GYR_X_L", r.gyrXH + 1), ("REG_GYR_Y_H", r.gyrYH), ("REG_GYR_Y_L", r.gyrYH + 1),
      ("REG_GYR_Z_H", r.gyrZH), ("REG_GYR_Z_L", r.gyrZH + 1)] →
    let asm (text : List Char) := Asm.assembleLine r n (String.ofList text)
    asm ("SELECT ".toList ++ name.toList) = .command (encode (.select b)) ∧
    asm ("READ ".toList ++ name.toList) = .command (encode (.read b)) ∧
    asm ("READPAIR ".toList ++ name.toList) = .command (encode (.readPair b)) ∧
    asm ("WRITE ".toList ++ name.toList ++ ", ".toList ++ name.toList) = .command (encode (.write b b))) ∧
  (∀ (r : RegMap) (n : UnitCount) (text rest : List Char),
    Asm.assembleLine r n (String.ofList (text ++ ';' :: rest)) = Asm.assembleLine r n (String.ofList text))
end

