-- ==== Sys2Proof/Laws/Memory.lean ====
section
/-! SUPPORT. The device register file keeps its canonical form, and a read after a write gives what was written. -/

namespace Sys2Proof.Machine

/-- The canonical form, one entry at a time. -/
theorem wf_cons (c : Host.Cell) (m : Memory) :
    Memory.wf (c :: m) = true ↔ c.1 < 256 ∧ (∀ d ∈ m, c.1 < d.1) ∧ Memory.wf m = true := by
  simp [Memory.wf, and_assoc]

theorem wf_nil : Memory.wf [] = true := rfl

/-- Every address after a write is the one written or was there before. -/
theorem mem_write {m : Memory} {a : Nat} {v : Byte} {c : Host.Cell} (h : c ∈ m.write a v) : c.1 = a ∨ c ∈ m := by
  induction m with
  | nil => left; simp_all [Memory.write]
  | cons d rest ih =>
    simp only [Memory.write] at h
    split at h
    · rcases List.mem_cons.1 h with rfl | h
      · exact .inl rfl
      · exact .inr h
    · split at h
      · rcases List.mem_cons.1 h with rfl | h
        · exact .inl rfl
        · exact .inr (List.mem_cons_of_mem _ h)
      · rcases List.mem_cons.1 h with rfl | h
        · exact .inr List.mem_cons_self
        · exact (ih h).imp id (List.mem_cons_of_mem _)

/-- A write keeps the canonical form. -/
theorem wf_write {m : Memory} {a : Nat} (v : Byte) (ha : a < 256) (h : m.wf = true) : (m.write a v).wf = true := by
  induction m with
  | nil => simp [Memory.write, Memory.wf, ha]
  | cons c rest ih =>
    obtain ⟨hc, hlt, hrest⟩ := (wf_cons c rest).1 h
    simp only [Memory.write]
    split
    · next hac =>
      refine (wf_cons _ _).2 ⟨ha, ?_, h⟩
      intro d hd
      rcases List.mem_cons.1 hd with rfl | hd
      · exact hac
      · exact Nat.lt_trans hac (hlt d hd)
    · split
      · next hac => exact (wf_cons _ _).2 ⟨ha, fun d hd => by simpa [hac] using hlt d hd, hrest⟩
      · next h1 h2 =>
        refine (wf_cons _ _).2 ⟨hc, fun d hd => ?_, ih hrest⟩
        rcases mem_write hd with h3 | h3
        · omega
        · exact hlt d h3

/-- A read after a write at the same address. -/
@[simp] theorem read_write_self (m : Memory) (a : Nat) (v : Byte) : (m.write a v).read? a = some v := by
  induction m with
  | nil => simp [Memory.write, Memory.read?]
  | cons c rest ih =>
    simp only [Memory.write]
    split
    · simp [Memory.read?]
    · split
      · simp [Memory.read?]
      · next h1 h2 => simp [Memory.read?, ih, Ne.symm h2]

/-- A read after a write at another address. -/
theorem read_write_ne {m : Memory} {a b : Nat} (h : b ≠ a) (v : Byte) : (m.write a v).read? b = m.read? b := by
  induction m with
  | nil => simp [Memory.write, Memory.read?, Ne.symm h]
  | cons c rest ih =>
    simp only [Memory.write]
    split
    · simp [Memory.read?, Ne.symm h]
    · split
      · next h1 h2 => subst h2; simp [Memory.read?, Ne.symm h]
      · simp [Memory.read?, ih]

/-! ### The device -/

@[simp] theorem setReg_ptr (d : Device) (a v : Byte) : (d.setReg a v).ptr = d.ptr := rfl
@[simp] theorem onRead_regs (d : Device) : d.onRead.regs = d.regs := rfl
@[simp] theorem onRead_ptr (d : Device) : d.onRead.ptr = d.ptr + 1 := rfl
@[simp] theorem onWrite_one (d : Device) (a : Byte) : d.onWrite [a] = { d with ptr := a } := rfl
@[simp] theorem onWrite_two (d : Device) (a v : Byte) : d.onWrite [a, v] = { d.setReg a v with ptr := a + 1 } := rfl
@[simp] theorem move_ptr (d : Device) (m : DeviceMove) : (d.move m).ptr = m.ptr := rfl
@[simp] theorem move_regs (d : Device) (m : DeviceMove) : (d.move m).regs = (d.update m.updates).regs := rfl

/-- The pointer plays no part in a register's value. -/
@[simp] theorem reg_with_ptr (d : Device) (p a : Byte) : ({ d with ptr := p } : Device).reg a = d.reg a := rfl

theorem reg_setReg (d : Device) (a b v : Byte) : (d.setReg a v).reg b = if b = a then v else d.reg b := by
  by_cases h : b = a
  · simp [h, Device.reg, Device.setReg]
  · have h' : b.toNat ≠ a.toNat := fun e => h (BitVec.eq_of_toNat_eq e)
    simp [h, Device.reg, Device.setReg, read_write_ne h']

theorem setReg_wf {d : Device} (a v : Byte) (h : d.regs.wf = true) : (d.setReg a v).regs.wf = true :=
  wf_write v a.isLt h

theorem update_wf {d : Device} (us : List (Byte × Byte)) (h : d.regs.wf = true) : (d.update us).regs.wf = true := by
  induction us generalizing d with
  | nil => exact h
  | cons u rest ih => exact ih (setReg_wf u.1 u.2 h)

theorem onWrite_wf {d : Device} (bytes : List Byte) (h : d.regs.wf = true) : (d.onWrite bytes).regs.wf = true := by
  unfold Device.onWrite
  split
  · exact h
  · exact setReg_wf _ _ h
  · exact h

/-- Every answer to a write transaction keeps the canonical form. -/
theorem drawDeviceAfterWrite_wf {d : Device} (bytes : List Byte) (w : Draw) (h : d.regs.wf = true) :
    (drawDeviceAfterWrite d bytes w).regs.wf = true := by
  cases w with
  | reference => exact onWrite_wf bytes h
  | answers b m => exact update_wf _ h
  | fails m => exact update_wf _ h
  | silent t m => exact update_wf _ h

/-- Every answer to a read transaction keeps the canonical form. -/
theorem drawDeviceAfterRead_wf {d : Device} (w : Draw) (h : d.regs.wf = true) :
    (drawDeviceAfterRead d w).regs.wf = true := by
  cases w with
  | reference => exact h
  | answers b m => exact update_wf _ h
  | fails m => exact update_wf _ h
  | silent t m => exact update_wf _ h

/-- The register file right after reset has the canonical form. -/
theorem reset_memory_wf : State.reset.dev.regs.wf = true := rfl

end Sys2Proof.Machine
end

