-- ==== Sys2Proof/Laws/State.lean ====
section
/-! SUPPORT. One lemma per field of State per named update, so that no later proof unfolds a record update. -/

namespace Sys2Proof.Machine

/-! ### setIdx -/

@[simp] theorem setIdx_params (u : UnitNo) (i : SeqIndex) (s : State) : (s.setIdx u i).params = s.params := rfl
@[simp] theorem setIdx_devAddr (u : UnitNo) (i : SeqIndex) (s : State) : (s.setIdx u i).devAddr = s.devAddr := rfl
@[simp] theorem setIdx_idx (u : UnitNo) (i : SeqIndex) (s : State) : (s.setIdx u i).idx = s.idx.set u i := rfl
@[simp] theorem setIdx_phase (u : UnitNo) (i : SeqIndex) (s : State) : (s.setIdx u i).phase = s.phase := rfl
@[simp] theorem setIdx_cmd (u : UnitNo) (i : SeqIndex) (s : State) : (s.setIdx u i).cmd = s.cmd := rfl
@[simp] theorem setIdx_rem (u : UnitNo) (i : SeqIndex) (s : State) : (s.setIdx u i).rem = s.rem := rfl
@[simp] theorem setIdx_hi (u : UnitNo) (i : SeqIndex) (s : State) : (s.setIdx u i).hi = s.hi := rfl
@[simp] theorem setIdx_rspStatus (u : UnitNo) (i : SeqIndex) (s : State) : (s.setIdx u i).rspStatus = s.rspStatus := rfl
@[simp] theorem setIdx_rspData (u : UnitNo) (i : SeqIndex) (s : State) : (s.setIdx u i).rspData = s.rspData := rfl
@[simp] theorem setIdx_timer (u : UnitNo) (i : SeqIndex) (s : State) : (s.setIdx u i).timer = s.timer := rfl
@[simp] theorem setIdx_outstanding (u : UnitNo) (i : SeqIndex) (s : State) : (s.setIdx u i).outstanding = s.outstanding := rfl
@[simp] theorem setIdx_dev (u : UnitNo) (i : SeqIndex) (s : State) : (s.setIdx u i).dev = s.dev := rfl
@[simp] theorem setIdx_ports (u : UnitNo) (i : SeqIndex) (s : State) : (s.setIdx u i).ports = s.ports := rfl
@[simp] theorem setIdx_events (u : UnitNo) (i : SeqIndex) (s : State) : (s.setIdx u i).events = s.events := rfl
@[simp] theorem setIdx_hostFaults (u : UnitNo) (i : SeqIndex) (s : State) : (s.setIdx u i).hostFaults = s.hostFaults := rfl
@[simp] theorem setIdx_host (u : UnitNo) (i : SeqIndex) (s : State) : (s.setIdx u i).host = s.host := rfl
@[simp] theorem setIdx_pendingReset (u : UnitNo) (i : SeqIndex) (s : State) : (s.setIdx u i).pendingReset = s.pendingReset := rfl
@[simp] theorem setIdx_bus (u : UnitNo) (i : SeqIndex) (s : State) : (s.setIdx u i).bus = s.bus := rfl
@[simp] theorem setIdx_draws (u : UnitNo) (i : SeqIndex) (s : State) : (s.setIdx u i).draws = s.draws := rfl

/-! ### moveIdx -/

@[simp] theorem moveIdx_params (u : UnitNo) (d : Direction) (k : SeqIndex) (s : State) : (s.moveIdx u d k).params = s.params := rfl
@[simp] theorem moveIdx_devAddr (u : UnitNo) (d : Direction) (k : SeqIndex) (s : State) : (s.moveIdx u d k).devAddr = s.devAddr := rfl
@[simp] theorem moveIdx_idx (u : UnitNo) (d : Direction) (k : SeqIndex) (s : State) : (s.moveIdx u d k).idx = s.idx.set u (shiftIndex d (s.idx.get u) k) := rfl
@[simp] theorem moveIdx_phase (u : UnitNo) (d : Direction) (k : SeqIndex) (s : State) : (s.moveIdx u d k).phase = s.phase := rfl
@[simp] theorem moveIdx_cmd (u : UnitNo) (d : Direction) (k : SeqIndex) (s : State) : (s.moveIdx u d k).cmd = s.cmd := rfl
@[simp] theorem moveIdx_rem (u : UnitNo) (d : Direction) (k : SeqIndex) (s : State) : (s.moveIdx u d k).rem = s.rem := rfl
@[simp] theorem moveIdx_hi (u : UnitNo) (d : Direction) (k : SeqIndex) (s : State) : (s.moveIdx u d k).hi = s.hi := rfl
@[simp] theorem moveIdx_rspStatus (u : UnitNo) (d : Direction) (k : SeqIndex) (s : State) : (s.moveIdx u d k).rspStatus = s.rspStatus := rfl
@[simp] theorem moveIdx_rspData (u : UnitNo) (d : Direction) (k : SeqIndex) (s : State) : (s.moveIdx u d k).rspData = s.rspData := rfl
@[simp] theorem moveIdx_timer (u : UnitNo) (d : Direction) (k : SeqIndex) (s : State) : (s.moveIdx u d k).timer = s.timer := rfl
@[simp] theorem moveIdx_outstanding (u : UnitNo) (d : Direction) (k : SeqIndex) (s : State) : (s.moveIdx u d k).outstanding = s.outstanding := rfl
@[simp] theorem moveIdx_dev (u : UnitNo) (d : Direction) (k : SeqIndex) (s : State) : (s.moveIdx u d k).dev = s.dev := rfl
@[simp] theorem moveIdx_ports (u : UnitNo) (d : Direction) (k : SeqIndex) (s : State) : (s.moveIdx u d k).ports = s.ports := rfl
@[simp] theorem moveIdx_events (u : UnitNo) (d : Direction) (k : SeqIndex) (s : State) : (s.moveIdx u d k).events = s.events := rfl
@[simp] theorem moveIdx_hostFaults (u : UnitNo) (d : Direction) (k : SeqIndex) (s : State) : (s.moveIdx u d k).hostFaults = s.hostFaults := rfl
@[simp] theorem moveIdx_host (u : UnitNo) (d : Direction) (k : SeqIndex) (s : State) : (s.moveIdx u d k).host = s.host := rfl
@[simp] theorem moveIdx_pendingReset (u : UnitNo) (d : Direction) (k : SeqIndex) (s : State) : (s.moveIdx u d k).pendingReset = s.pendingReset := rfl
@[simp] theorem moveIdx_bus (u : UnitNo) (d : Direction) (k : SeqIndex) (s : State) : (s.moveIdx u d k).bus = s.bus := rfl
@[simp] theorem moveIdx_draws (u : UnitNo) (d : Direction) (k : SeqIndex) (s : State) : (s.moveIdx u d k).draws = s.draws := rfl

/-! ### setPort -/

@[simp] theorem setPort_params (u : UnitNo) (p : Port) (s : State) : (s.setPort u p).params = s.params := rfl
@[simp] theorem setPort_devAddr (u : UnitNo) (p : Port) (s : State) : (s.setPort u p).devAddr = s.devAddr := rfl
@[simp] theorem setPort_idx (u : UnitNo) (p : Port) (s : State) : (s.setPort u p).idx = s.idx := rfl
@[simp] theorem setPort_phase (u : UnitNo) (p : Port) (s : State) : (s.setPort u p).phase = s.phase := rfl
@[simp] theorem setPort_cmd (u : UnitNo) (p : Port) (s : State) : (s.setPort u p).cmd = s.cmd := rfl
@[simp] theorem setPort_rem (u : UnitNo) (p : Port) (s : State) : (s.setPort u p).rem = s.rem := rfl
@[simp] theorem setPort_hi (u : UnitNo) (p : Port) (s : State) : (s.setPort u p).hi = s.hi := rfl
@[simp] theorem setPort_rspStatus (u : UnitNo) (p : Port) (s : State) : (s.setPort u p).rspStatus = s.rspStatus := rfl
@[simp] theorem setPort_rspData (u : UnitNo) (p : Port) (s : State) : (s.setPort u p).rspData = s.rspData := rfl
@[simp] theorem setPort_timer (u : UnitNo) (p : Port) (s : State) : (s.setPort u p).timer = s.timer := rfl
@[simp] theorem setPort_outstanding (u : UnitNo) (p : Port) (s : State) : (s.setPort u p).outstanding = s.outstanding := rfl
@[simp] theorem setPort_dev (u : UnitNo) (p : Port) (s : State) : (s.setPort u p).dev = s.dev := rfl
@[simp] theorem setPort_ports (u : UnitNo) (p : Port) (s : State) : (s.setPort u p).ports = s.ports.set u p := rfl
@[simp] theorem setPort_events (u : UnitNo) (p : Port) (s : State) : (s.setPort u p).events = s.events := rfl
@[simp] theorem setPort_hostFaults (u : UnitNo) (p : Port) (s : State) : (s.setPort u p).hostFaults = s.hostFaults := rfl
@[simp] theorem setPort_host (u : UnitNo) (p : Port) (s : State) : (s.setPort u p).host = s.host := rfl
@[simp] theorem setPort_pendingReset (u : UnitNo) (p : Port) (s : State) : (s.setPort u p).pendingReset = s.pendingReset := rfl
@[simp] theorem setPort_bus (u : UnitNo) (p : Port) (s : State) : (s.setPort u p).bus = s.bus := rfl
@[simp] theorem setPort_draws (u : UnitNo) (p : Port) (s : State) : (s.setPort u p).draws = s.draws := rfl

/-! ### elapse -/

@[simp] theorem elapse_params (d : Nat) (s : State) : (s.elapse d).params = s.params := rfl
@[simp] theorem elapse_devAddr (d : Nat) (s : State) : (s.elapse d).devAddr = s.devAddr := rfl
@[simp] theorem elapse_idx (d : Nat) (s : State) : (s.elapse d).idx = s.idx := rfl
@[simp] theorem elapse_phase (d : Nat) (s : State) : (s.elapse d).phase = s.phase := rfl
@[simp] theorem elapse_cmd (d : Nat) (s : State) : (s.elapse d).cmd = s.cmd := rfl
@[simp] theorem elapse_rem (d : Nat) (s : State) : (s.elapse d).rem = s.rem := rfl
@[simp] theorem elapse_hi (d : Nat) (s : State) : (s.elapse d).hi = s.hi := rfl
@[simp] theorem elapse_rspStatus (d : Nat) (s : State) : (s.elapse d).rspStatus = s.rspStatus := rfl
@[simp] theorem elapse_rspData (d : Nat) (s : State) : (s.elapse d).rspData = s.rspData := rfl
@[simp] theorem elapse_timer (d : Nat) (s : State) : (s.elapse d).timer = s.timer := rfl
@[simp] theorem elapse_outstanding (d : Nat) (s : State) : (s.elapse d).outstanding = s.outstanding := rfl
@[simp] theorem elapse_dev (d : Nat) (s : State) : (s.elapse d).dev = s.dev := rfl
@[simp] theorem elapse_ports (d : Nat) (s : State) : (s.elapse d).ports = s.ports.map (Port.age d) := rfl
@[simp] theorem elapse_events (d : Nat) (s : State) : (s.elapse d).events = s.events := rfl
@[simp] theorem elapse_hostFaults (d : Nat) (s : State) : (s.elapse d).hostFaults = s.hostFaults := rfl
@[simp] theorem elapse_host (d : Nat) (s : State) : (s.elapse d).host = s.host := rfl
@[simp] theorem elapse_pendingReset (d : Nat) (s : State) : (s.elapse d).pendingReset = s.pendingReset := rfl
@[simp] theorem elapse_bus (d : Nat) (s : State) : (s.elapse d).bus = s.bus := rfl
@[simp] theorem elapse_draws (d : Nat) (s : State) : (s.elapse d).draws = s.draws := rfl

/-! ### expire -/

@[simp] theorem expire_params (s : State) : s.expire.params = s.params := rfl
@[simp] theorem expire_devAddr (s : State) : s.expire.devAddr = s.devAddr := rfl
@[simp] theorem expire_idx (s : State) : s.expire.idx = s.idx := rfl
@[simp] theorem expire_phase (s : State) : s.expire.phase = s.phase := rfl
@[simp] theorem expire_cmd (s : State) : s.expire.cmd = s.cmd := rfl
@[simp] theorem expire_rem (s : State) : s.expire.rem = s.rem := rfl
@[simp] theorem expire_hi (s : State) : s.expire.hi = s.hi := rfl
@[simp] theorem expire_rspStatus (s : State) : s.expire.rspStatus = s.rspStatus := rfl
@[simp] theorem expire_rspData (s : State) : s.expire.rspData = s.rspData := rfl
@[simp] theorem expire_timer (s : State) : s.expire.timer = 0 := rfl
@[simp] theorem expire_outstanding (s : State) : s.expire.outstanding = s.outstanding := rfl
@[simp] theorem expire_dev (s : State) : s.expire.dev = s.dev := rfl
@[simp] theorem expire_ports (s : State) : s.expire.ports = s.ports.map (Port.age s.timer) := rfl
@[simp] theorem expire_events (s : State) : s.expire.events = s.events := rfl
@[simp] theorem expire_hostFaults (s : State) : s.expire.hostFaults = s.hostFaults := rfl
@[simp] theorem expire_host (s : State) : s.expire.host = s.host := rfl
@[simp] theorem expire_pendingReset (s : State) : s.expire.pendingReset = s.pendingReset := rfl
@[simp] theorem expire_bus (s : State) : s.expire.bus = s.bus := rfl
@[simp] theorem expire_draws (s : State) : s.expire.draws = s.draws := rfl

/-! ### proceed -/

@[simp] theorem proceed_params (r : Option (Nat × BusAddr)) (s : State) : (s.proceed r).params = s.params := rfl
@[simp] theorem proceed_devAddr (r : Option (Nat × BusAddr)) (s : State) : (s.proceed r).devAddr = s.devAddr := rfl
@[simp] theorem proceed_idx (r : Option (Nat × BusAddr)) (s : State) : (s.proceed r).idx = s.idx := rfl
@[simp] theorem proceed_phase (r : Option (Nat × BusAddr)) (s : State) : (s.proceed r).phase = s.phase := rfl
@[simp] theorem proceed_cmd (r : Option (Nat × BusAddr)) (s : State) : (s.proceed r).cmd = s.cmd := rfl
@[simp] theorem proceed_rem (r : Option (Nat × BusAddr)) (s : State) : (s.proceed r).rem = s.rem := rfl
@[simp] theorem proceed_hi (r : Option (Nat × BusAddr)) (s : State) : (s.proceed r).hi = s.hi := rfl
@[simp] theorem proceed_rspStatus (r : Option (Nat × BusAddr)) (s : State) : (s.proceed r).rspStatus = s.rspStatus := rfl
@[simp] theorem proceed_rspData (r : Option (Nat × BusAddr)) (s : State) : (s.proceed r).rspData = s.rspData := rfl
@[simp] theorem proceed_timer (r : Option (Nat × BusAddr)) (s : State) : (s.proceed r).timer = 0 := rfl
@[simp] theorem proceed_outstanding (r : Option (Nat × BusAddr)) (s : State) : (s.proceed r).outstanding = s.outstanding := rfl
@[simp] theorem proceed_dev (r : Option (Nat × BusAddr)) (s : State) : (s.proceed r).dev = s.dev := rfl
@[simp] theorem proceed_ports (r : Option (Nat × BusAddr)) (s : State) : (s.proceed r).ports = s.ports.map (Port.age s.timer) := rfl
@[simp] theorem proceed_events (r : Option (Nat × BusAddr)) (s : State) : (s.proceed r).events = s.events := rfl
@[simp] theorem proceed_hostFaults (r : Option (Nat × BusAddr)) (s : State) : (s.proceed r).hostFaults = s.hostFaults := rfl
@[simp] theorem proceed_host (r : Option (Nat × BusAddr)) (s : State) : (s.proceed r).host = s.host := rfl
@[simp] theorem proceed_pendingReset (r : Option (Nat × BusAddr)) (s : State) : (s.proceed r).pendingReset = r := rfl
@[simp] theorem proceed_bus (r : Option (Nat × BusAddr)) (s : State) : (s.proceed r).bus = s.bus := rfl
@[simp] theorem proceed_draws (r : Option (Nat × BusAddr)) (s : State) : (s.proceed r).draws = s.draws := rfl

/-! ### setHi -/

@[simp] theorem setHi_params (b : Byte) (s : State) : (s.setHi b).params = s.params := rfl
@[simp] theorem setHi_devAddr (b : Byte) (s : State) : (s.setHi b).devAddr = s.devAddr := rfl
@[simp] theorem setHi_idx (b : Byte) (s : State) : (s.setHi b).idx = s.idx := rfl
@[simp] theorem setHi_phase (b : Byte) (s : State) : (s.setHi b).phase = s.phase := rfl
@[simp] theorem setHi_cmd (b : Byte) (s : State) : (s.setHi b).cmd = s.cmd := rfl
@[simp] theorem setHi_rem (b : Byte) (s : State) : (s.setHi b).rem = s.rem := rfl
@[simp] theorem setHi_hi (b : Byte) (s : State) : (s.setHi b).hi = b := rfl
@[simp] theorem setHi_rspStatus (b : Byte) (s : State) : (s.setHi b).rspStatus = s.rspStatus := rfl
@[simp] theorem setHi_rspData (b : Byte) (s : State) : (s.setHi b).rspData = s.rspData := rfl
@[simp] theorem setHi_timer (b : Byte) (s : State) : (s.setHi b).timer = s.timer := rfl
@[simp] theorem setHi_outstanding (b : Byte) (s : State) : (s.setHi b).outstanding = s.outstanding := rfl
@[simp] theorem setHi_dev (b : Byte) (s : State) : (s.setHi b).dev = s.dev := rfl
@[simp] theorem setHi_ports (b : Byte) (s : State) : (s.setHi b).ports = s.ports := rfl
@[simp] theorem setHi_events (b : Byte) (s : State) : (s.setHi b).events = s.events := rfl
@[simp] theorem setHi_hostFaults (b : Byte) (s : State) : (s.setHi b).hostFaults = s.hostFaults := rfl
@[simp] theorem setHi_host (b : Byte) (s : State) : (s.setHi b).host = s.host := rfl
@[simp] theorem setHi_pendingReset (b : Byte) (s : State) : (s.setHi b).pendingReset = s.pendingReset := rfl
@[simp] theorem setHi_bus (b : Byte) (s : State) : (s.setHi b).bus = s.bus := rfl
@[simp] theorem setHi_draws (b : Byte) (s : State) : (s.setHi b).draws = s.draws := rfl

/-! ### setRem -/

@[simp] theorem setRem_params (n : StepCount) (s : State) : (s.setRem n).params = s.params := rfl
@[simp] theorem setRem_devAddr (n : StepCount) (s : State) : (s.setRem n).devAddr = s.devAddr := rfl
@[simp] theorem setRem_idx (n : StepCount) (s : State) : (s.setRem n).idx = s.idx := rfl
@[simp] theorem setRem_phase (n : StepCount) (s : State) : (s.setRem n).phase = s.phase := rfl
@[simp] theorem setRem_cmd (n : StepCount) (s : State) : (s.setRem n).cmd = s.cmd := rfl
@[simp] theorem setRem_rem (n : StepCount) (s : State) : (s.setRem n).rem = n := rfl
@[simp] theorem setRem_hi (n : StepCount) (s : State) : (s.setRem n).hi = s.hi := rfl
@[simp] theorem setRem_rspStatus (n : StepCount) (s : State) : (s.setRem n).rspStatus = s.rspStatus := rfl
@[simp] theorem setRem_rspData (n : StepCount) (s : State) : (s.setRem n).rspData = s.rspData := rfl
@[simp] theorem setRem_timer (n : StepCount) (s : State) : (s.setRem n).timer = s.timer := rfl
@[simp] theorem setRem_outstanding (n : StepCount) (s : State) : (s.setRem n).outstanding = s.outstanding := rfl
@[simp] theorem setRem_dev (n : StepCount) (s : State) : (s.setRem n).dev = s.dev := rfl
@[simp] theorem setRem_ports (n : StepCount) (s : State) : (s.setRem n).ports = s.ports := rfl
@[simp] theorem setRem_events (n : StepCount) (s : State) : (s.setRem n).events = s.events := rfl
@[simp] theorem setRem_hostFaults (n : StepCount) (s : State) : (s.setRem n).hostFaults = s.hostFaults := rfl
@[simp] theorem setRem_host (n : StepCount) (s : State) : (s.setRem n).host = s.host := rfl
@[simp] theorem setRem_pendingReset (n : StepCount) (s : State) : (s.setRem n).pendingReset = s.pendingReset := rfl
@[simp] theorem setRem_bus (n : StepCount) (s : State) : (s.setRem n).bus = s.bus := rfl
@[simp] theorem setRem_draws (n : StepCount) (s : State) : (s.setRem n).draws = s.draws := rfl

/-! ### record -/

@[simp] theorem record_params (e : Event) (s : State) : (s.record e).params = s.params := rfl
@[simp] theorem record_devAddr (e : Event) (s : State) : (s.record e).devAddr = s.devAddr := rfl
@[simp] theorem record_idx (e : Event) (s : State) : (s.record e).idx = s.idx := rfl
@[simp] theorem record_phase (e : Event) (s : State) : (s.record e).phase = s.phase := rfl
@[simp] theorem record_cmd (e : Event) (s : State) : (s.record e).cmd = s.cmd := rfl
@[simp] theorem record_rem (e : Event) (s : State) : (s.record e).rem = s.rem := rfl
@[simp] theorem record_hi (e : Event) (s : State) : (s.record e).hi = s.hi := rfl
@[simp] theorem record_rspStatus (e : Event) (s : State) : (s.record e).rspStatus = s.rspStatus := rfl
@[simp] theorem record_rspData (e : Event) (s : State) : (s.record e).rspData = s.rspData := rfl
@[simp] theorem record_timer (e : Event) (s : State) : (s.record e).timer = s.timer := rfl
@[simp] theorem record_outstanding (e : Event) (s : State) : (s.record e).outstanding = s.outstanding := rfl
@[simp] theorem record_dev (e : Event) (s : State) : (s.record e).dev = s.dev := rfl
@[simp] theorem record_ports (e : Event) (s : State) : (s.record e).ports = s.ports := rfl
@[simp] theorem record_events (e : Event) (s : State) : (s.record e).events = s.events ++ [e] := rfl
@[simp] theorem record_hostFaults (e : Event) (s : State) : (s.record e).hostFaults = s.hostFaults := rfl
@[simp] theorem record_host (e : Event) (s : State) : (s.record e).host = s.host := rfl
@[simp] theorem record_pendingReset (e : Event) (s : State) : (s.record e).pendingReset = s.pendingReset := rfl
@[simp] theorem record_bus (e : Event) (s : State) : (s.record e).bus = s.bus := rfl
@[simp] theorem record_draws (e : Event) (s : State) : (s.record e).draws = s.draws := rfl

/-! ### dropDraw -/

@[simp] theorem dropDraw_params (s : State) : s.dropDraw.params = s.params := rfl
@[simp] theorem dropDraw_devAddr (s : State) : s.dropDraw.devAddr = s.devAddr := rfl
@[simp] theorem dropDraw_idx (s : State) : s.dropDraw.idx = s.idx := rfl
@[simp] theorem dropDraw_phase (s : State) : s.dropDraw.phase = s.phase := rfl
@[simp] theorem dropDraw_cmd (s : State) : s.dropDraw.cmd = s.cmd := rfl
@[simp] theorem dropDraw_rem (s : State) : s.dropDraw.rem = s.rem := rfl
@[simp] theorem dropDraw_hi (s : State) : s.dropDraw.hi = s.hi := rfl
@[simp] theorem dropDraw_rspStatus (s : State) : s.dropDraw.rspStatus = s.rspStatus := rfl
@[simp] theorem dropDraw_rspData (s : State) : s.dropDraw.rspData = s.rspData := rfl
@[simp] theorem dropDraw_timer (s : State) : s.dropDraw.timer = s.timer := rfl
@[simp] theorem dropDraw_outstanding (s : State) : s.dropDraw.outstanding = s.outstanding := rfl
@[simp] theorem dropDraw_dev (s : State) : s.dropDraw.dev = s.dev := rfl
@[simp] theorem dropDraw_ports (s : State) : s.dropDraw.ports = s.ports := rfl
@[simp] theorem dropDraw_events (s : State) : s.dropDraw.events = s.events := rfl
@[simp] theorem dropDraw_hostFaults (s : State) : s.dropDraw.hostFaults = s.hostFaults := rfl
@[simp] theorem dropDraw_host (s : State) : s.dropDraw.host = s.host := rfl
@[simp] theorem dropDraw_pendingReset (s : State) : s.dropDraw.pendingReset = s.pendingReset := rfl
@[simp] theorem dropDraw_bus (s : State) : s.dropDraw.bus = s.bus.tail := rfl
@[simp] theorem dropDraw_draws (s : State) : s.dropDraw.draws = s.draws + 1 := rfl

/-! ### respondNow -/

@[simp] theorem respondNow_params (st : Status) (d : Half) (s : State) : (respondNow st d s).params = s.params := rfl
@[simp] theorem respondNow_devAddr (st : Status) (d : Half) (s : State) : (respondNow st d s).devAddr = s.devAddr := rfl
@[simp] theorem respondNow_idx (st : Status) (d : Half) (s : State) : (respondNow st d s).idx = s.idx := rfl
@[simp] theorem respondNow_phase (st : Status) (d : Half) (s : State) : (respondNow st d s).phase = .resp := rfl
@[simp] theorem respondNow_cmd (st : Status) (d : Half) (s : State) : (respondNow st d s).cmd = s.cmd := rfl
@[simp] theorem respondNow_rem (st : Status) (d : Half) (s : State) : (respondNow st d s).rem = s.rem := rfl
@[simp] theorem respondNow_hi (st : Status) (d : Half) (s : State) : (respondNow st d s).hi = s.hi := rfl
@[simp] theorem respondNow_rspStatus (st : Status) (d : Half) (s : State) : (respondNow st d s).rspStatus = st.code := rfl
@[simp] theorem respondNow_rspData (st : Status) (d : Half) (s : State) : (respondNow st d s).rspData = d := rfl
@[simp] theorem respondNow_timer (st : Status) (d : Half) (s : State) : (respondNow st d s).timer = s.timer := rfl
@[simp] theorem respondNow_outstanding (st : Status) (d : Half) (s : State) : (respondNow st d s).outstanding = s.outstanding := rfl
@[simp] theorem respondNow_dev (st : Status) (d : Half) (s : State) : (respondNow st d s).dev = s.dev := rfl
@[simp] theorem respondNow_ports (st : Status) (d : Half) (s : State) : (respondNow st d s).ports = s.ports := rfl
@[simp] theorem respondNow_events (st : Status) (d : Half) (s : State) : (respondNow st d s).events = s.events ++ [.respond st d] := rfl
@[simp] theorem respondNow_hostFaults (st : Status) (d : Half) (s : State) : (respondNow st d s).hostFaults = s.hostFaults := rfl
@[simp] theorem respondNow_host (st : Status) (d : Half) (s : State) : (respondNow st d s).host = s.host := rfl
@[simp] theorem respondNow_pendingReset (st : Status) (d : Half) (s : State) : (respondNow st d s).pendingReset = none := rfl
@[simp] theorem respondNow_bus (st : Status) (d : Half) (s : State) : (respondNow st d s).bus = s.bus := rfl
@[simp] theorem respondNow_draws (st : Status) (d : Half) (s : State) : (respondNow st d s).draws = s.draws := rfl

/-! ### hang -/

@[simp] theorem hang_params (o : Outstanding) (s : State) : (hang o s).params = s.params := rfl
@[simp] theorem hang_devAddr (o : Outstanding) (s : State) : (hang o s).devAddr = s.devAddr := rfl
@[simp] theorem hang_idx (o : Outstanding) (s : State) : (hang o s).idx = s.idx := rfl
@[simp] theorem hang_phase (o : Outstanding) (s : State) : (hang o s).phase = s.phase := rfl
@[simp] theorem hang_cmd (o : Outstanding) (s : State) : (hang o s).cmd = s.cmd := rfl
@[simp] theorem hang_rem (o : Outstanding) (s : State) : (hang o s).rem = s.rem := rfl
@[simp] theorem hang_hi (o : Outstanding) (s : State) : (hang o s).hi = s.hi := rfl
@[simp] theorem hang_rspStatus (o : Outstanding) (s : State) : (hang o s).rspStatus = s.rspStatus := rfl
@[simp] theorem hang_rspData (o : Outstanding) (s : State) : (hang o s).rspData = s.rspData := rfl
@[simp] theorem hang_timer (o : Outstanding) (s : State) : (hang o s).timer = s.timer := rfl
@[simp] theorem hang_outstanding (o : Outstanding) (s : State) : (hang o s).outstanding = some o := rfl
@[simp] theorem hang_dev (o : Outstanding) (s : State) : (hang o s).dev = s.dev := rfl
@[simp] theorem hang_ports (o : Outstanding) (s : State) : (hang o s).ports = s.ports := rfl
@[simp] theorem hang_events (o : Outstanding) (s : State) : (hang o s).events = s.events := rfl
@[simp] theorem hang_hostFaults (o : Outstanding) (s : State) : (hang o s).hostFaults = s.hostFaults := rfl
@[simp] theorem hang_host (o : Outstanding) (s : State) : (hang o s).host = s.host := rfl
@[simp] theorem hang_pendingReset (o : Outstanding) (s : State) : (hang o s).pendingReset = none := rfl
@[simp] theorem hang_bus (o : Outstanding) (s : State) : (hang o s).bus = s.bus := rfl
@[simp] theorem hang_draws (o : Outstanding) (s : State) : (hang o s).draws = s.draws := rfl

/-! ### resetBlock -/

@[simp] theorem resetBlock_params (a : BusAddr) (s : State) : (resetBlock a s).params = s.params := rfl
@[simp] theorem resetBlock_devAddr (a : BusAddr) (s : State) : (resetBlock a s).devAddr = a := rfl
@[simp] theorem resetBlock_idx (a : BusAddr) (s : State) : (resetBlock a s).idx = { u0 := 0, u1 := 0, u2 := 0, u3 := 0 } := rfl
@[simp] theorem resetBlock_phase (a : BusAddr) (s : State) : (resetBlock a s).phase = .idle := rfl
@[simp] theorem resetBlock_cmd (a : BusAddr) (s : State) : (resetBlock a s).cmd = 0 := rfl
@[simp] theorem resetBlock_rem (a : BusAddr) (s : State) : (resetBlock a s).rem = 0 := rfl
@[simp] theorem resetBlock_hi (a : BusAddr) (s : State) : (resetBlock a s).hi = 0 := rfl
@[simp] theorem resetBlock_rspStatus (a : BusAddr) (s : State) : (resetBlock a s).rspStatus = 0 := rfl
@[simp] theorem resetBlock_rspData (a : BusAddr) (s : State) : (resetBlock a s).rspData = 0 := rfl
@[simp] theorem resetBlock_timer (a : BusAddr) (s : State) : (resetBlock a s).timer = 0 := rfl
@[simp] theorem resetBlock_outstanding (a : BusAddr) (s : State) : (resetBlock a s).outstanding = none := rfl
@[simp] theorem resetBlock_dev (a : BusAddr) (s : State) : (resetBlock a s).dev = s.dev := rfl
@[simp] theorem resetBlock_ports (a : BusAddr) (s : State) : (resetBlock a s).ports = s.ports.map (fun p => { p with driven := false }) := rfl
@[simp] theorem resetBlock_events (a : BusAddr) (s : State) : (resetBlock a s).events = s.events := rfl
@[simp] theorem resetBlock_hostFaults (a : BusAddr) (s : State) : (resetBlock a s).hostFaults = s.hostFaults := rfl
@[simp] theorem resetBlock_host (a : BusAddr) (s : State) : (resetBlock a s).host = s.host := rfl
@[simp] theorem resetBlock_pendingReset (a : BusAddr) (s : State) : (resetBlock a s).pendingReset = none := rfl
@[simp] theorem resetBlock_bus (a : BusAddr) (s : State) : (resetBlock a s).bus = s.bus := rfl
@[simp] theorem resetBlock_draws (a : BusAddr) (s : State) : (resetBlock a s).draws = s.draws := rfl

/-! ### afterWrite -/

@[simp] theorem afterWrite_params (b : List Byte) (s : State) : (s.afterWrite b).params = s.params := rfl
@[simp] theorem afterWrite_devAddr (b : List Byte) (s : State) : (s.afterWrite b).devAddr = s.devAddr := rfl
@[simp] theorem afterWrite_idx (b : List Byte) (s : State) : (s.afterWrite b).idx = s.idx := rfl
@[simp] theorem afterWrite_phase (b : List Byte) (s : State) : (s.afterWrite b).phase = s.phase := rfl
@[simp] theorem afterWrite_cmd (b : List Byte) (s : State) : (s.afterWrite b).cmd = s.cmd := rfl
@[simp] theorem afterWrite_rem (b : List Byte) (s : State) : (s.afterWrite b).rem = s.rem := rfl
@[simp] theorem afterWrite_hi (b : List Byte) (s : State) : (s.afterWrite b).hi = s.hi := rfl
@[simp] theorem afterWrite_rspStatus (b : List Byte) (s : State) : (s.afterWrite b).rspStatus = s.rspStatus := rfl
@[simp] theorem afterWrite_rspData (b : List Byte) (s : State) : (s.afterWrite b).rspData = s.rspData := rfl
@[simp] theorem afterWrite_timer (b : List Byte) (s : State) : (s.afterWrite b).timer = s.timer := rfl
@[simp] theorem afterWrite_outstanding (b : List Byte) (s : State) : (s.afterWrite b).outstanding = s.outstanding := rfl
@[simp] theorem afterWrite_dev (b : List Byte) (s : State) : (s.afterWrite b).dev = drawDeviceAfterWrite s.dev b (s.drawAt 0) := rfl
@[simp] theorem afterWrite_ports (b : List Byte) (s : State) : (s.afterWrite b).ports = s.ports := rfl
@[simp] theorem afterWrite_events (b : List Byte) (s : State) : (s.afterWrite b).events = s.events ++ [.busWrite s.devAddr b (drawWriteAnswer (s.drawAt 0))] := rfl
@[simp] theorem afterWrite_hostFaults (b : List Byte) (s : State) : (s.afterWrite b).hostFaults = s.hostFaults := rfl
@[simp] theorem afterWrite_host (b : List Byte) (s : State) : (s.afterWrite b).host = s.host := rfl
@[simp] theorem afterWrite_pendingReset (b : List Byte) (s : State) : (s.afterWrite b).pendingReset = s.pendingReset := rfl
@[simp] theorem afterWrite_bus (b : List Byte) (s : State) : (s.afterWrite b).bus = s.bus.tail := rfl
@[simp] theorem afterWrite_draws (b : List Byte) (s : State) : (s.afterWrite b).draws = s.draws + 1 := rfl

/-! ### afterRead -/

@[simp] theorem afterRead_params (s : State) : s.afterRead.params = s.params := rfl
@[simp] theorem afterRead_devAddr (s : State) : s.afterRead.devAddr = s.devAddr := rfl
@[simp] theorem afterRead_idx (s : State) : s.afterRead.idx = s.idx := rfl
@[simp] theorem afterRead_phase (s : State) : s.afterRead.phase = s.phase := rfl
@[simp] theorem afterRead_cmd (s : State) : s.afterRead.cmd = s.cmd := rfl
@[simp] theorem afterRead_rem (s : State) : s.afterRead.rem = s.rem := rfl
@[simp] theorem afterRead_hi (s : State) : s.afterRead.hi = s.hi := rfl
@[simp] theorem afterRead_rspStatus (s : State) : s.afterRead.rspStatus = s.rspStatus := rfl
@[simp] theorem afterRead_rspData (s : State) : s.afterRead.rspData = s.rspData := rfl
@[simp] theorem afterRead_timer (s : State) : s.afterRead.timer = s.timer := rfl
@[simp] theorem afterRead_outstanding (s : State) : s.afterRead.outstanding = s.outstanding := rfl
@[simp] theorem afterRead_dev (s : State) : s.afterRead.dev = drawDeviceAfterRead s.dev (s.drawAt 0) := rfl
@[simp] theorem afterRead_ports (s : State) : s.afterRead.ports = s.ports := rfl
@[simp] theorem afterRead_events (s : State) : s.afterRead.events = s.events ++ [.busRead s.devAddr (drawReadAnswer s.dev (s.drawAt 0))] := rfl
@[simp] theorem afterRead_hostFaults (s : State) : s.afterRead.hostFaults = s.hostFaults := rfl
@[simp] theorem afterRead_host (s : State) : s.afterRead.host = s.host := rfl
@[simp] theorem afterRead_pendingReset (s : State) : s.afterRead.pendingReset = s.pendingReset := rfl
@[simp] theorem afterRead_bus (s : State) : s.afterRead.bus = s.bus.tail := rfl
@[simp] theorem afterRead_draws (s : State) : s.afterRead.draws = s.draws + 1 := rfl

/-! ### afterPortWrite -/

@[simp] theorem afterPortWrite_params (u : UnitNo) (p : Pattern) (s : State) : (s.afterPortWrite u p).params = s.params := rfl
@[simp] theorem afterPortWrite_devAddr (u : UnitNo) (p : Pattern) (s : State) : (s.afterPortWrite u p).devAddr = s.devAddr := rfl
@[simp] theorem afterPortWrite_idx (u : UnitNo) (p : Pattern) (s : State) : (s.afterPortWrite u p).idx = s.idx := rfl
@[simp] theorem afterPortWrite_phase (u : UnitNo) (p : Pattern) (s : State) : (s.afterPortWrite u p).phase = s.phase := rfl
@[simp] theorem afterPortWrite_cmd (u : UnitNo) (p : Pattern) (s : State) : (s.afterPortWrite u p).cmd = s.cmd := rfl
@[simp] theorem afterPortWrite_rem (u : UnitNo) (p : Pattern) (s : State) : (s.afterPortWrite u p).rem = s.rem := rfl
@[simp] theorem afterPortWrite_hi (u : UnitNo) (p : Pattern) (s : State) : (s.afterPortWrite u p).hi = s.hi := rfl
@[simp] theorem afterPortWrite_rspStatus (u : UnitNo) (p : Pattern) (s : State) : (s.afterPortWrite u p).rspStatus = s.rspStatus := rfl
@[simp] theorem afterPortWrite_rspData (u : UnitNo) (p : Pattern) (s : State) : (s.afterPortWrite u p).rspData = s.rspData := rfl
@[simp] theorem afterPortWrite_timer (u : UnitNo) (p : Pattern) (s : State) : (s.afterPortWrite u p).timer = s.timer := rfl
@[simp] theorem afterPortWrite_outstanding (u : UnitNo) (p : Pattern) (s : State) : (s.afterPortWrite u p).outstanding = s.outstanding := rfl
@[simp] theorem afterPortWrite_dev (u : UnitNo) (p : Pattern) (s : State) : (s.afterPortWrite u p).dev = s.dev := rfl
@[simp] theorem afterPortWrite_ports (u : UnitNo) (p : Pattern) (s : State) : (s.afterPortWrite u p).ports = s.ports.set u { s.ports.get u with written := p } := rfl
@[simp] theorem afterPortWrite_events (u : UnitNo) (p : Pattern) (s : State) : (s.afterPortWrite u p).events = s.events ++ [.portWrite u p] := rfl
@[simp] theorem afterPortWrite_hostFaults (u : UnitNo) (p : Pattern) (s : State) : (s.afterPortWrite u p).hostFaults = s.hostFaults := rfl
@[simp] theorem afterPortWrite_host (u : UnitNo) (p : Pattern) (s : State) : (s.afterPortWrite u p).host = s.host := rfl
@[simp] theorem afterPortWrite_pendingReset (u : UnitNo) (p : Pattern) (s : State) : (s.afterPortWrite u p).pendingReset = s.pendingReset := rfl
@[simp] theorem afterPortWrite_bus (u : UnitNo) (p : Pattern) (s : State) : (s.afterPortWrite u p).bus = s.bus := rfl
@[simp] theorem afterPortWrite_draws (u : UnitNo) (p : Pattern) (s : State) : (s.afterPortWrite u p).draws = s.draws := rfl

/-! ### afterPortFlush -/

@[simp] theorem afterPortFlush_params (u : UnitNo) (s : State) : (s.afterPortFlush u).params = s.params := rfl
@[simp] theorem afterPortFlush_devAddr (u : UnitNo) (s : State) : (s.afterPortFlush u).devAddr = s.devAddr := rfl
@[simp] theorem afterPortFlush_idx (u : UnitNo) (s : State) : (s.afterPortFlush u).idx = s.idx := rfl
@[simp] theorem afterPortFlush_phase (u : UnitNo) (s : State) : (s.afterPortFlush u).phase = s.phase := rfl
@[simp] theorem afterPortFlush_cmd (u : UnitNo) (s : State) : (s.afterPortFlush u).cmd = s.cmd := rfl
@[simp] theorem afterPortFlush_rem (u : UnitNo) (s : State) : (s.afterPortFlush u).rem = s.rem := rfl
@[simp] theorem afterPortFlush_hi (u : UnitNo) (s : State) : (s.afterPortFlush u).hi = s.hi := rfl
@[simp] theorem afterPortFlush_rspStatus (u : UnitNo) (s : State) : (s.afterPortFlush u).rspStatus = s.rspStatus := rfl
@[simp] theorem afterPortFlush_rspData (u : UnitNo) (s : State) : (s.afterPortFlush u).rspData = s.rspData := rfl
@[simp] theorem afterPortFlush_timer (u : UnitNo) (s : State) : (s.afterPortFlush u).timer = s.timer := rfl
@[simp] theorem afterPortFlush_outstanding (u : UnitNo) (s : State) : (s.afterPortFlush u).outstanding = s.outstanding := rfl
@[simp] theorem afterPortFlush_dev (u : UnitNo) (s : State) : (s.afterPortFlush u).dev = s.dev := rfl
@[simp] theorem afterPortFlush_ports (u : UnitNo) (s : State) : (s.afterPortFlush u).ports = s.ports.set u { s.ports.get u with flushed := (s.ports.get u).written, driven := true } := rfl
@[simp] theorem afterPortFlush_events (u : UnitNo) (s : State) : (s.afterPortFlush u).events = s.events ++ [.portFlush u] := rfl
@[simp] theorem afterPortFlush_hostFaults (u : UnitNo) (s : State) : (s.afterPortFlush u).hostFaults = s.hostFaults := rfl
@[simp] theorem afterPortFlush_host (u : UnitNo) (s : State) : (s.afterPortFlush u).host = s.host := rfl
@[simp] theorem afterPortFlush_pendingReset (u : UnitNo) (s : State) : (s.afterPortFlush u).pendingReset = s.pendingReset := rfl
@[simp] theorem afterPortFlush_bus (u : UnitNo) (s : State) : (s.afterPortFlush u).bus = s.bus := rfl
@[simp] theorem afterPortFlush_draws (u : UnitNo) (s : State) : (s.afterPortFlush u).draws = s.draws := rfl

/-! ### afterSettle -/

@[simp] theorem afterSettle_params (u : UnitNo) (s : State) : (s.afterSettle u).params = s.params := rfl
@[simp] theorem afterSettle_devAddr (u : UnitNo) (s : State) : (s.afterSettle u).devAddr = s.devAddr := rfl
@[simp] theorem afterSettle_idx (u : UnitNo) (s : State) : (s.afterSettle u).idx = s.idx := rfl
@[simp] theorem afterSettle_phase (u : UnitNo) (s : State) : (s.afterSettle u).phase = s.phase := rfl
@[simp] theorem afterSettle_cmd (u : UnitNo) (s : State) : (s.afterSettle u).cmd = s.cmd := rfl
@[simp] theorem afterSettle_rem (u : UnitNo) (s : State) : (s.afterSettle u).rem = s.rem := rfl
@[simp] theorem afterSettle_hi (u : UnitNo) (s : State) : (s.afterSettle u).hi = s.hi := rfl
@[simp] theorem afterSettle_rspStatus (u : UnitNo) (s : State) : (s.afterSettle u).rspStatus = s.rspStatus := rfl
@[simp] theorem afterSettle_rspData (u : UnitNo) (s : State) : (s.afterSettle u).rspData = s.rspData := rfl
@[simp] theorem afterSettle_timer (u : UnitNo) (s : State) : (s.afterSettle u).timer = s.params.tSettle := rfl
@[simp] theorem afterSettle_outstanding (u : UnitNo) (s : State) : (s.afterSettle u).outstanding = s.outstanding := rfl
@[simp] theorem afterSettle_dev (u : UnitNo) (s : State) : (s.afterSettle u).dev = s.dev := rfl
@[simp] theorem afterSettle_ports (u : UnitNo) (s : State) : (s.afterSettle u).ports = s.ports := rfl
@[simp] theorem afterSettle_events (u : UnitNo) (s : State) : (s.afterSettle u).events = s.events ++ [.settle u] := rfl
@[simp] theorem afterSettle_hostFaults (u : UnitNo) (s : State) : (s.afterSettle u).hostFaults = s.hostFaults := rfl
@[simp] theorem afterSettle_host (u : UnitNo) (s : State) : (s.afterSettle u).host = s.host := rfl
@[simp] theorem afterSettle_pendingReset (u : UnitNo) (s : State) : (s.afterSettle u).pendingReset = s.pendingReset := rfl
@[simp] theorem afterSettle_bus (u : UnitNo) (s : State) : (s.afterSettle u).bus = s.bus := rfl
@[simp] theorem afterSettle_draws (u : UnitNo) (s : State) : (s.afterSettle u).draws = s.draws := rfl

/-! ### oweSettle -/

@[simp] theorem oweSettle_params (u : UnitNo) (s : State) : (oweSettle u s).params = s.params := rfl
@[simp] theorem oweSettle_devAddr (u : UnitNo) (s : State) : (oweSettle u s).devAddr = s.devAddr := rfl
@[simp] theorem oweSettle_idx (u : UnitNo) (s : State) : (oweSettle u s).idx = s.idx := rfl
@[simp] theorem oweSettle_phase (u : UnitNo) (s : State) : (oweSettle u s).phase = s.phase := rfl
@[simp] theorem oweSettle_cmd (u : UnitNo) (s : State) : (oweSettle u s).cmd = s.cmd := rfl
@[simp] theorem oweSettle_rem (u : UnitNo) (s : State) : (oweSettle u s).rem = s.rem := rfl
@[simp] theorem oweSettle_hi (u : UnitNo) (s : State) : (oweSettle u s).hi = s.hi := rfl
@[simp] theorem oweSettle_rspStatus (u : UnitNo) (s : State) : (oweSettle u s).rspStatus = s.rspStatus := rfl
@[simp] theorem oweSettle_rspData (u : UnitNo) (s : State) : (oweSettle u s).rspData = s.rspData := rfl
@[simp] theorem oweSettle_timer (u : UnitNo) (s : State) : (oweSettle u s).timer = s.timer := rfl
@[simp] theorem oweSettle_outstanding (u : UnitNo) (s : State) : (oweSettle u s).outstanding = s.outstanding := rfl
@[simp] theorem oweSettle_dev (u : UnitNo) (s : State) : (oweSettle u s).dev = s.dev := rfl
@[simp] theorem oweSettle_ports (u : UnitNo) (s : State) : (oweSettle u s).ports = s.ports.set u { s.ports.get u with duty := some 0 } := rfl
@[simp] theorem oweSettle_events (u : UnitNo) (s : State) : (oweSettle u s).events = s.events := rfl
@[simp] theorem oweSettle_hostFaults (u : UnitNo) (s : State) : (oweSettle u s).hostFaults = s.hostFaults := rfl
@[simp] theorem oweSettle_host (u : UnitNo) (s : State) : (oweSettle u s).host = s.host := rfl
@[simp] theorem oweSettle_pendingReset (u : UnitNo) (s : State) : (oweSettle u s).pendingReset = s.pendingReset := rfl
@[simp] theorem oweSettle_bus (u : UnitNo) (s : State) : (oweSettle u s).bus = s.bus := rfl
@[simp] theorem oweSettle_draws (u : UnitNo) (s : State) : (oweSettle u s).draws = s.draws := rfl

/-! ### clearDuty -/

@[simp] theorem clearDuty_params (u : UnitNo) (s : State) : (clearDuty u s).params = s.params := rfl
@[simp] theorem clearDuty_devAddr (u : UnitNo) (s : State) : (clearDuty u s).devAddr = s.devAddr := rfl
@[simp] theorem clearDuty_idx (u : UnitNo) (s : State) : (clearDuty u s).idx = s.idx := rfl
@[simp] theorem clearDuty_phase (u : UnitNo) (s : State) : (clearDuty u s).phase = s.phase := rfl
@[simp] theorem clearDuty_cmd (u : UnitNo) (s : State) : (clearDuty u s).cmd = s.cmd := rfl
@[simp] theorem clearDuty_rem (u : UnitNo) (s : State) : (clearDuty u s).rem = s.rem := rfl
@[simp] theorem clearDuty_hi (u : UnitNo) (s : State) : (clearDuty u s).hi = s.hi := rfl
@[simp] theorem clearDuty_rspStatus (u : UnitNo) (s : State) : (clearDuty u s).rspStatus = s.rspStatus := rfl
@[simp] theorem clearDuty_rspData (u : UnitNo) (s : State) : (clearDuty u s).rspData = s.rspData := rfl
@[simp] theorem clearDuty_timer (u : UnitNo) (s : State) : (clearDuty u s).timer = s.timer := rfl
@[simp] theorem clearDuty_outstanding (u : UnitNo) (s : State) : (clearDuty u s).outstanding = s.outstanding := rfl
@[simp] theorem clearDuty_dev (u : UnitNo) (s : State) : (clearDuty u s).dev = s.dev := rfl
@[simp] theorem clearDuty_ports (u : UnitNo) (s : State) : (clearDuty u s).ports = s.ports.set u { s.ports.get u with duty := none } := rfl
@[simp] theorem clearDuty_events (u : UnitNo) (s : State) : (clearDuty u s).events = s.events := rfl
@[simp] theorem clearDuty_hostFaults (u : UnitNo) (s : State) : (clearDuty u s).hostFaults = s.hostFaults := rfl
@[simp] theorem clearDuty_host (u : UnitNo) (s : State) : (clearDuty u s).host = s.host := rfl
@[simp] theorem clearDuty_pendingReset (u : UnitNo) (s : State) : (clearDuty u s).pendingReset = s.pendingReset := rfl
@[simp] theorem clearDuty_bus (u : UnitNo) (s : State) : (clearDuty u s).bus = s.bus := rfl
@[simp] theorem clearDuty_draws (u : UnitNo) (s : State) : (clearDuty u s).draws = s.draws := rfl

/-! ### accept -/

@[simp] theorem accept_params (p : Inputs) (s : State) : (s.accept p).params = s.params := rfl
@[simp] theorem accept_devAddr (p : Inputs) (s : State) : (s.accept p).devAddr = s.devAddr := rfl
@[simp] theorem accept_idx (p : Inputs) (s : State) : (s.accept p).idx = s.idx := rfl
@[simp] theorem accept_phase (p : Inputs) (s : State) : (s.accept p).phase = .exec := rfl
@[simp] theorem accept_cmd (p : Inputs) (s : State) : (s.accept p).cmd = p.cmdWord := rfl
@[simp] theorem accept_rem (p : Inputs) (s : State) : (s.accept p).rem = s.rem := rfl
@[simp] theorem accept_hi (p : Inputs) (s : State) : (s.accept p).hi = s.hi := rfl
@[simp] theorem accept_rspStatus (p : Inputs) (s : State) : (s.accept p).rspStatus = s.rspStatus := rfl
@[simp] theorem accept_rspData (p : Inputs) (s : State) : (s.accept p).rspData = s.rspData := rfl
@[simp] theorem accept_timer (p : Inputs) (s : State) : (s.accept p).timer = s.timer := rfl
@[simp] theorem accept_outstanding (p : Inputs) (s : State) : (s.accept p).outstanding = s.outstanding := rfl
@[simp] theorem accept_dev (p : Inputs) (s : State) : (s.accept p).dev = s.dev := rfl
@[simp] theorem accept_ports (p : Inputs) (s : State) : (s.accept p).ports = s.ports := rfl
@[simp] theorem accept_events (p : Inputs) (s : State) : (s.accept p).events = s.events := rfl
@[simp] theorem accept_hostFaults (p : Inputs) (s : State) : (s.accept p).hostFaults = s.hostFaults := rfl
@[simp] theorem accept_host (p : Inputs) (s : State) : (s.accept p).host = s.host := rfl
@[simp] theorem accept_pendingReset (p : Inputs) (s : State) : (s.accept p).pendingReset = announcedReset p := rfl
@[simp] theorem accept_bus (p : Inputs) (s : State) : (s.accept p).bus = s.bus := rfl
@[simp] theorem accept_draws (p : Inputs) (s : State) : (s.accept p).draws = s.draws := rfl

/-! ### takeResponse -/

@[simp] theorem takeResponse_params (s : State) : s.takeResponse.params = s.params := rfl
@[simp] theorem takeResponse_devAddr (s : State) : s.takeResponse.devAddr = s.devAddr := rfl
@[simp] theorem takeResponse_idx (s : State) : s.takeResponse.idx = s.idx := rfl
@[simp] theorem takeResponse_phase (s : State) : s.takeResponse.phase = .idle := rfl
@[simp] theorem takeResponse_cmd (s : State) : s.takeResponse.cmd = s.cmd := rfl
@[simp] theorem takeResponse_rem (s : State) : s.takeResponse.rem = s.rem := rfl
@[simp] theorem takeResponse_hi (s : State) : s.takeResponse.hi = s.hi := rfl
@[simp] theorem takeResponse_rspStatus (s : State) : s.takeResponse.rspStatus = s.rspStatus := rfl
@[simp] theorem takeResponse_rspData (s : State) : s.takeResponse.rspData = s.rspData := rfl
@[simp] theorem takeResponse_timer (s : State) : s.takeResponse.timer = s.timer := rfl
@[simp] theorem takeResponse_outstanding (s : State) : s.takeResponse.outstanding = s.outstanding := rfl
@[simp] theorem takeResponse_dev (s : State) : s.takeResponse.dev = s.dev := rfl
@[simp] theorem takeResponse_ports (s : State) : s.takeResponse.ports = s.ports := rfl
@[simp] theorem takeResponse_events (s : State) : s.takeResponse.events = s.events := rfl
@[simp] theorem takeResponse_hostFaults (s : State) : s.takeResponse.hostFaults = s.hostFaults := rfl
@[simp] theorem takeResponse_host (s : State) : s.takeResponse.host = s.host := rfl
@[simp] theorem takeResponse_pendingReset (s : State) : s.takeResponse.pendingReset = s.pendingReset := rfl
@[simp] theorem takeResponse_bus (s : State) : s.takeResponse.bus = s.bus := rfl
@[simp] theorem takeResponse_draws (s : State) : s.takeResponse.draws = s.draws := rfl

/-! ### arrive -/

@[simp] theorem arrive_params (s : State) : s.arrive.params = s.params := rfl
@[simp] theorem arrive_devAddr (s : State) : s.arrive.devAddr = s.devAddr := rfl
@[simp] theorem arrive_idx (s : State) : s.arrive.idx = s.idx := rfl
@[simp] theorem arrive_phase (s : State) : s.arrive.phase = s.phase := rfl
@[simp] theorem arrive_cmd (s : State) : s.arrive.cmd = s.cmd := rfl
@[simp] theorem arrive_rem (s : State) : s.arrive.rem = s.rem := rfl
@[simp] theorem arrive_hi (s : State) : s.arrive.hi = s.hi := rfl
@[simp] theorem arrive_rspStatus (s : State) : s.arrive.rspStatus = s.rspStatus := rfl
@[simp] theorem arrive_rspData (s : State) : s.arrive.rspData = s.rspData := rfl
@[simp] theorem arrive_timer (s : State) : s.arrive.timer = s.timer := rfl
@[simp] theorem arrive_outstanding (s : State) : s.arrive.outstanding = s.outstanding := rfl
@[simp] theorem arrive_dev (s : State) : s.arrive.dev = s.dev.update s.inputs.sensor := rfl
@[simp] theorem arrive_ports (s : State) : s.arrive.ports = s.ports.map (Port.age s.inputs.wait) := rfl
@[simp] theorem arrive_events (s : State) : s.arrive.events = s.events := rfl
@[simp] theorem arrive_hostFaults (s : State) : s.arrive.hostFaults = s.hostFaults := rfl
@[simp] theorem arrive_host (s : State) : s.arrive.host = s.host.tail := rfl
@[simp] theorem arrive_pendingReset (s : State) : s.arrive.pendingReset = s.pendingReset := rfl
@[simp] theorem arrive_bus (s : State) : s.arrive.bus = s.bus := rfl
@[simp] theorem arrive_draws (s : State) : s.arrive.draws = s.draws := rfl

/-! ### withFetchWord -/

@[simp] theorem withFetchWord_params (n w : Nat) (s : State) : (s.withFetchWord n w).params = s.params := rfl
@[simp] theorem withFetchWord_devAddr (n w : Nat) (s : State) : (s.withFetchWord n w).devAddr = s.devAddr := rfl
@[simp] theorem withFetchWord_idx (n w : Nat) (s : State) : (s.withFetchWord n w).idx = s.idx := rfl
@[simp] theorem withFetchWord_phase (n w : Nat) (s : State) : (s.withFetchWord n w).phase = .idle := rfl
@[simp] theorem withFetchWord_cmd (n w : Nat) (s : State) : (s.withFetchWord n w).cmd = s.cmd := rfl
@[simp] theorem withFetchWord_rem (n w : Nat) (s : State) : (s.withFetchWord n w).rem = s.rem := rfl
@[simp] theorem withFetchWord_hi (n w : Nat) (s : State) : (s.withFetchWord n w).hi = s.hi := rfl
@[simp] theorem withFetchWord_rspStatus (n w : Nat) (s : State) : (s.withFetchWord n w).rspStatus = s.rspStatus := rfl
@[simp] theorem withFetchWord_rspData (n w : Nat) (s : State) : (s.withFetchWord n w).rspData = s.rspData := rfl
@[simp] theorem withFetchWord_timer (n w : Nat) (s : State) : (s.withFetchWord n w).timer = s.timer := rfl
@[simp] theorem withFetchWord_outstanding (n w : Nat) (s : State) : (s.withFetchWord n w).outstanding = none := rfl
@[simp] theorem withFetchWord_dev (n w : Nat) (s : State) : (s.withFetchWord n w).dev = s.dev := rfl
@[simp] theorem withFetchWord_ports (n w : Nat) (s : State) : (s.withFetchWord n w).ports = s.ports := rfl
@[simp] theorem withFetchWord_events (n w : Nat) (s : State) : (s.withFetchWord n w).events = s.events := rfl
@[simp] theorem withFetchWord_hostFaults (n w : Nat) (s : State) : (s.withFetchWord n w).hostFaults = s.hostFaults := rfl
@[simp] theorem withFetchWord_host (n w : Nat) (s : State) : (s.withFetchWord n w).host = { cmdValid := true, cmdWord := BitVec.ofNat 32 (w % 2 ^ n) } :: s.host := rfl
@[simp] theorem withFetchWord_pendingReset (n w : Nat) (s : State) : (s.withFetchWord n w).pendingReset = s.pendingReset := rfl
@[simp] theorem withFetchWord_bus (n w : Nat) (s : State) : (s.withFetchWord n w).bus = s.bus := rfl
@[simp] theorem withFetchWord_draws (n w : Nat) (s : State) : (s.withFetchWord n w).draws = s.draws := rfl

/-! ### checkDuty: only the record of host faults can change -/

@[simp] theorem checkDuty_params (u : UnitNo) (s : State) : (checkDuty u s).params = s.params := by
  unfold checkDuty; split <;> rfl
@[simp] theorem checkDuty_devAddr (u : UnitNo) (s : State) : (checkDuty u s).devAddr = s.devAddr := by
  unfold checkDuty; split <;> rfl
@[simp] theorem checkDuty_idx (u : UnitNo) (s : State) : (checkDuty u s).idx = s.idx := by
  unfold checkDuty; split <;> rfl
@[simp] theorem checkDuty_phase (u : UnitNo) (s : State) : (checkDuty u s).phase = s.phase := by
  unfold checkDuty; split <;> rfl
@[simp] theorem checkDuty_cmd (u : UnitNo) (s : State) : (checkDuty u s).cmd = s.cmd := by
  unfold checkDuty; split <;> rfl
@[simp] theorem checkDuty_rem (u : UnitNo) (s : State) : (checkDuty u s).rem = s.rem := by
  unfold checkDuty; split <;> rfl
@[simp] theorem checkDuty_hi (u : UnitNo) (s : State) : (checkDuty u s).hi = s.hi := by
  unfold checkDuty; split <;> rfl
@[simp] theorem checkDuty_rspStatus (u : UnitNo) (s : State) : (checkDuty u s).rspStatus = s.rspStatus := by
  unfold checkDuty; split <;> rfl
@[simp] theorem checkDuty_rspData (u : UnitNo) (s : State) : (checkDuty u s).rspData = s.rspData := by
  unfold checkDuty; split <;> rfl
@[simp] theorem checkDuty_timer (u : UnitNo) (s : State) : (checkDuty u s).timer = s.timer := by
  unfold checkDuty; split <;> rfl
@[simp] theorem checkDuty_outstanding (u : UnitNo) (s : State) : (checkDuty u s).outstanding = s.outstanding := by
  unfold checkDuty; split <;> rfl
@[simp] theorem checkDuty_dev (u : UnitNo) (s : State) : (checkDuty u s).dev = s.dev := by
  unfold checkDuty; split <;> rfl
@[simp] theorem checkDuty_ports (u : UnitNo) (s : State) : (checkDuty u s).ports = s.ports := by
  unfold checkDuty; split <;> rfl
@[simp] theorem checkDuty_events (u : UnitNo) (s : State) : (checkDuty u s).events = s.events := by
  unfold checkDuty; split <;> rfl
theorem checkDuty_hostFaults (u : UnitNo) (s : State) :
    (checkDuty u s).hostFaults =
      if dutyUnmet s.params.tSettle (s.ports.get u) then s.hostFaults ++ [.settleTooSoon u] else s.hostFaults := by
  unfold checkDuty State.portOf; split <;> rfl
@[simp] theorem checkDuty_host (u : UnitNo) (s : State) : (checkDuty u s).host = s.host := by
  unfold checkDuty; split <;> rfl
@[simp] theorem checkDuty_pendingReset (u : UnitNo) (s : State) : (checkDuty u s).pendingReset = s.pendingReset := by
  unfold checkDuty; split <;> rfl
@[simp] theorem checkDuty_bus (u : UnitNo) (s : State) : (checkDuty u s).bus = s.bus := by
  unfold checkDuty; split <;> rfl
@[simp] theorem checkDuty_draws (u : UnitNo) (s : State) : (checkDuty u s).draws = s.draws := by
  unfold checkDuty; split <;> rfl

end Sys2Proof.Machine
end

