-- ==== Sys2Proof/Laws/Units.lean ====
section
/-! SUPPORT. Reading one unit's place after an update. -/

namespace Sys2Proof.Machine

/-- A unit number is one of four. -/
theorem unitNo_cases (u : UnitNo) : u = 0 ∨ u = 1 ∨ u = 2 ∨ u = 3 := by
  revert u; decide

theorem get_set {α : Type} (p : PerUnit α) (u v : UnitNo) (x : α) :
    (p.set u x).get v = if v = u then x else p.get v := by
  rcases unitNo_cases u with rfl | rfl | rfl | rfl <;> rcases unitNo_cases v with rfl | rfl | rfl | rfl <;> rfl

@[simp] theorem get_set_self {α : Type} (p : PerUnit α) (u : UnitNo) (x : α) : (p.set u x).get u = x := by
  simp [get_set]

theorem get_set_ne {α : Type} (p : PerUnit α) {u v : UnitNo} (h : v ≠ u) (x : α) : (p.set u x).get v = p.get v := by
  simp [get_set, h]

@[simp] theorem get_map {α β : Type} (f : α → β) (p : PerUnit α) (u : UnitNo) : (p.map f).get u = f (p.get u) := by
  rcases unitNo_cases u with rfl | rfl | rfl | rfl <;> rfl

@[simp] theorem set_set {α : Type} (p : PerUnit α) (u : UnitNo) (x y : α) : (p.set u x).set u y = p.set u y := by
  rcases unitNo_cases u with rfl | rfl | rfl | rfl <;> rfl

theorem map_set {α β : Type} (f : α → β) (p : PerUnit α) (u : UnitNo) (x : α) :
    (p.set u x).map f = (p.map f).set u (f x) := by
  rcases unitNo_cases u with rfl | rfl | rfl | rfl <;> rfl

@[simp] theorem map_map {α β γ : Type} (f : β → γ) (g : α → β) (p : PerUnit α) :
    (p.map g).map f = p.map (fun x => f (g x)) := rfl

/-- Two families of values that agree on every unit are equal. -/
theorem perUnit_ext {α : Type} {p q : PerUnit α} (h : ∀ u, p.get u = q.get u) : p = q := by
  have h0 := h 0; have h1 := h 1; have h2 := h 2; have h3 := h 3
  cases p; cases q
  simp_all [PerUnit.get]

@[simp] theorem get_zero_idx (u : UnitNo) : ({ u0 := 0, u1 := 0, u2 := 0, u3 := 0 } : PerUnit SeqIndex).get u = 0 := by
  rcases unitNo_cases u with rfl | rfl | rfl | rfl <;> rfl

/-- No time passing changes nothing. -/
@[simp] theorem age_zero (p : Port) : Port.age 0 p = p := by
  cases p with | mk w f d t => cases t <;> simp [Port.age]

@[simp] theorem age_age (a b : Nat) (p : Port) : Port.age a (Port.age b p) = Port.age (b + a) p := by
  cases p with | mk w f d t => cases t <;> simp [Port.age, Nat.add_assoc]

@[simp] theorem map_age_zero (p : PerUnit Port) : p.map (Port.age 0) = p :=
  perUnit_ext (by simp)

@[simp] theorem age_written (d : Nat) (p : Port) : (Port.age d p).written = p.written := rfl
@[simp] theorem age_flushed (d : Nat) (p : Port) : (Port.age d p).flushed = p.flushed := rfl
@[simp] theorem age_driven (d : Nat) (p : Port) : (Port.age d p).driven = p.driven := rfl

@[simp] theorem elapse_zero (s : State) : s.elapse 0 = s := by
  cases s; simp [State.elapse]

/-- A stopped settle timer has nothing to run out. -/
theorem expire_of_stopped {s : State} (h : s.timer = 0) : s.expire = s := by
  cases s; simp_all [State.expire, State.elapse]

/-- Neither a reset nor a settle stands before the next event. -/
theorem proceed_of_stopped {s : State} (hp : s.pendingReset = none) (ht : s.timer = 0) : s.proceed none = s := by
  cases s; simp_all [State.proceed, State.expire, State.elapse]

end Sys2Proof.Machine
end

