-- ==== Sys2Proof/Laws/Ops.lean ====
section
/-! SUPPORT. What each shared operation can do, said once: the `_elim` lemmas for every case (they carry any property
through an operation), the `_run` lemmas for a command that no reset interrupts. -/

namespace Sys2Proof.Machine

/-! ### The answers still to come -/

@[simp] theorem drawAt_dropDraw (s : State) (n : Nat) : s.dropDraw.drawAt n = s.drawAt (n + 1) := by
  cases hb : s.bus <;> simp [State.drawAt, hb, Nat.add_comm, Nat.add_left_comm]

theorem drawAt_congr {s t : State} (hb : s.bus = t.bus) (hd : s.draws = t.draws) (n : Nat) : s.drawAt n = t.drawAt n := by
  simp [State.drawAt, hb, hd]

@[simp] theorem drawAt_afterWrite (s : State) (b : List Byte) (n : Nat) : (s.afterWrite b).drawAt n = s.drawAt (n + 1) := by
  rw [← drawAt_dropDraw]; exact drawAt_congr rfl rfl n

@[simp] theorem drawAt_afterRead (s : State) (n : Nat) : s.afterRead.drawAt n = s.drawAt (n + 1) := by
  rw [← drawAt_dropDraw]; exact drawAt_congr rfl rfl n

@[simp] theorem drawAt_expire (s : State) (n : Nat) : s.expire.drawAt n = s.drawAt n := rfl
@[simp] theorem drawAt_proceed (s : State) (r : Option (Nat × BusAddr)) (n : Nat) :
    (s.proceed r).drawAt n = s.drawAt n := rfl
@[simp] theorem drawAt_setHi (s : State) (b : Byte) (n : Nat) : (s.setHi b).drawAt n = s.drawAt n := rfl

/-! ### gate -/

/-- Before an event: the reset that is due, or what follows. -/
theorem gate_elim {P : State → Prop} {s : State} {k : State → State}
    (hreset : ∀ a, s.pendingReset = some (0, a) → P (resetBlock a s))
    (hgo : ∀ r, (∀ n a, s.pendingReset = some (n, a) → ∃ m, n = m + 1 ∧ r = some (m, a)) →
      (s.pendingReset = none → r = none) → P (k (s.proceed r))) :
    P (gate s k) := by
  unfold gate
  split
  · next a h => exact hreset a h
  · next n a h => exact hgo (some (n, a)) (fun n' a' h' => by simp_all) (by simp [h])
  · next h => exact hgo none (by simp [h]) (fun _ => rfl)

/-- With no reset coming, the settle timer runs out and the event follows. -/
theorem gate_run {s : State} (hp : s.pendingReset = none) (k : State → State) : gate s k = k (s.proceed none) := by
  simp [gate, hp]

/-- With no reset coming and no settle running, the event follows. -/
theorem gate_still {s : State} (hp : s.pendingReset = none) (ht : s.timer = 0) (k : State → State) : gate s k = k s := by
  rw [gate_run hp, proceed_of_stopped hp ht]

/-- A reset that is due ends the command. -/
theorem gate_reset {s : State} {a : BusAddr} (hp : s.pendingReset = some (0, a)) (k : State → State) :
    gate s k = resetBlock a s := by
  simp [gate, hp]

/-- A reset that is not due yet comes one event nearer. -/
theorem gate_nearer {s : State} {n : Nat} {a : BusAddr} (hp : s.pendingReset = some (n + 1, a)) (k : State → State) :
    gate s k = k (s.proceed (some (n, a))) := by
  simp [gate, hp]

/-! ### respond -/

theorem respond_elim {P : State → Prop} {s : State} {st : Status} {d : Half}
    (hreset : ∀ a, s.pendingReset = some (0, a) → P (resetBlock a s))
    (hgo : P (respondNow st d s.expire)) : P (respond st d s) :=
  gate_elim hreset fun _ _ _ => hgo

theorem respond_run {s : State} (hp : s.pendingReset = none) (ht : s.timer = 0) (st : Status) (d : Half) :
    respond st d s = respondNow st d s := gate_still hp ht _

/-! ### bus transactions -/

/-- A write transaction: reset before it, or one of its three answers. -/
theorem busWrite_elim {P : State → Prop} {bytes : List Byte} {s : State} {k : State → State}
    (hreset : ∀ a, s.pendingReset = some (0, a) → P (resetBlock a s))
    (hok : ∀ r, drawWriteAnswer (s.drawAt 0) = .ok → P (k (State.afterWrite bytes (s.proceed r))))
    (hfail : ∀ r, drawWriteAnswer (s.drawAt 0) = .fail → P (raiseBusFail (State.afterWrite bytes (s.proceed r))))
    (hsilent : ∀ r, drawWriteAnswer (s.drawAt 0) = .silent →
      P (hang { req := .write s.devAddr bytes, taken := drawTaken (s.drawAt 0) }
        (State.afterWrite bytes (s.proceed r)))) :
    P (busWrite bytes s k) := by
  refine gate_elim hreset fun r _ _ => ?_
  simp only [drawAt_proceed]
  split
  · next h => exact hok r h
  · next h => exact hfail r h
  · next h => exact hsilent r h

/-- A read transaction: reset before it, or one of its three answers. -/
theorem busRead_elim {P : State → Prop} {s : State} {k : Byte → State → State}
    (hreset : ∀ a, s.pendingReset = some (0, a) → P (resetBlock a s))
    (hok : ∀ r b, drawReadAnswer s.dev (s.drawAt 0) = .ok b → P (k b (State.afterRead (s.proceed r))))
    (hfail : ∀ r, drawReadAnswer s.dev (s.drawAt 0) = .fail → P (raiseBusFail (State.afterRead (s.proceed r))))
    (hsilent : ∀ r, drawReadAnswer s.dev (s.drawAt 0) = .silent →
      P (hang { req := .read s.devAddr, taken := drawTaken (s.drawAt 0) } (State.afterRead (s.proceed r)))) :
    P (busRead s k) := by
  refine gate_elim hreset fun r _ _ => ?_
  simp only [drawAt_proceed, proceed_dev]
  split
  · next b h => exact hok r b h
  · next h => exact hfail r h
  · next h => exact hsilent r h

theorem busWrite_ok {s : State} (hp : s.pendingReset = none) (ht : s.timer = 0) (bytes : List Byte)
    (h : drawWriteAnswer (s.drawAt 0) = .ok) (k : State → State) :
    busWrite bytes s k = k (s.afterWrite bytes) := by
  simp [busWrite, gate_still hp ht, h]

theorem busWrite_fail {s : State} (hp : s.pendingReset = none) (ht : s.timer = 0) (bytes : List Byte)
    (h : drawWriteAnswer (s.drawAt 0) = .fail) (k : State → State) :
    busWrite bytes s k = respondNow .busFail 0 (s.afterWrite bytes) := by
  simp [busWrite, gate_still hp ht, h, raiseBusFail, respond_run (s := s.afterWrite bytes) hp ht]

theorem busWrite_silent {s : State} (hp : s.pendingReset = none) (ht : s.timer = 0) (bytes : List Byte)
    (h : drawWriteAnswer (s.drawAt 0) = .silent) (k : State → State) :
    busWrite bytes s k =
      hang { req := .write s.devAddr bytes, taken := drawTaken (s.drawAt 0) } (s.afterWrite bytes) := by
  simp [busWrite, gate_still hp ht, h]

theorem busRead_ok {s : State} (hp : s.pendingReset = none) (ht : s.timer = 0) {b : Byte}
    (h : drawReadAnswer s.dev (s.drawAt 0) = .ok b) (k : Byte → State → State) :
    busRead s k = k b s.afterRead := by
  simp [busRead, gate_still hp ht, h]

theorem busRead_fail {s : State} (hp : s.pendingReset = none) (ht : s.timer = 0)
    (h : drawReadAnswer s.dev (s.drawAt 0) = .fail) (k : Byte → State → State) :
    busRead s k = respondNow .busFail 0 s.afterRead := by
  simp [busRead, gate_still hp ht, h, raiseBusFail, respond_run (s := s.afterRead) hp ht]

theorem busRead_silent {s : State} (hp : s.pendingReset = none) (ht : s.timer = 0)
    (h : drawReadAnswer s.dev (s.drawAt 0) = .silent) (k : Byte → State → State) :
    busRead s k = hang { req := .read s.devAddr, taken := drawTaken (s.drawAt 0) } s.afterRead := by
  simp [busRead, gate_still hp ht, h]

/-! ### ports and settle -/

theorem portWrite_elim {P : State → Prop} {u : UnitNo} {p : Pattern} {s : State} {k : State → State}
    (hreset : ∀ a, s.pendingReset = some (0, a) → P (resetBlock a s))
    (hgo : ∀ r, P (k (State.afterPortWrite u p (s.proceed r)))) : P (portWrite u p s k) :=
  gate_elim (k := fun s => k (s.afterPortWrite u p)) hreset fun r _ _ => hgo r

theorem portFlush_elim {P : State → Prop} {u : UnitNo} {s : State} {k : State → State}
    (hreset : ∀ a, s.pendingReset = some (0, a) → P (resetBlock a s))
    (hgo : ∀ r, P (k (State.afterPortFlush u (s.proceed r)))) : P (portFlush u s k) :=
  gate_elim (k := fun s => k (s.afterPortFlush u)) hreset fun r _ _ => hgo r

theorem settle_elim {P : State → Prop} {u : UnitNo} {s : State} {k : State → State}
    (hreset : ∀ a, s.pendingReset = some (0, a) → P (resetBlock a s))
    (hgo : ∀ r, P (k (State.afterSettle u (s.proceed r)))) : P (settle u s k) :=
  gate_elim (k := fun s => k (s.afterSettle u)) hreset fun r _ _ => hgo r

/-- An emission that no reset interrupts: both events, the port driven, the settle timer run out before it. -/
theorem emission_run {s : State} (hp : s.pendingReset = none) (u : UnitNo) (k : State → State) :
    emission u s k = k { s with
      timer := 0
      ports := (s.ports.map (Port.age s.timer)).set u
        { written := rom (s.idx.get u), flushed := rom (s.idx.get u), driven := true
          duty := (Port.age s.timer (s.ports.get u)).duty }
      events := s.events ++ [.portWrite u (rom (s.idx.get u)), .portFlush u] } := by
  have h : State.afterPortFlush u (State.afterPortWrite u (rom (s.idxOf u)) (s.proceed none)) = { s with
      timer := 0
      ports := (s.ports.map (Port.age s.timer)).set u
        { written := rom (s.idx.get u), flushed := rom (s.idx.get u), driven := true
          duty := (Port.age s.timer (s.ports.get u)).duty }
      events := s.events ++ [.portWrite u (rom (s.idx.get u)), .portFlush u] } := by
    cases s
    simp_all [State.afterPortFlush, State.afterPortWrite, State.record, State.setPort, State.portOf, State.idxOf,
      State.proceed, State.expire, State.elapse]
  rw [emission, portWrite, gate_run hp, portFlush, gate_still rfl rfl, h]

/-- A settle that no reset interrupts. -/
theorem settle_run {s : State} (hp : s.pendingReset = none) (u : UnitNo) (k : State → State) :
    settle u s k = k ((s.proceed none).afterSettle u) := by
  simp [settle, gate_run hp]

/-! ### bookkeeping of the settle duty -/

theorem portOf_eq (s : State) (u : UnitNo) : s.portOf u = s.ports.get u := rfl
theorem idxOf_eq (s : State) (u : UnitNo) : s.idxOf u = s.idx.get u := rfl

theorem status_code_ne_three (st : Status) : st.code ≠ 3 := by cases st <;> decide

theorem ofCode_code (st : Status) : Status.ofCode st.code = some st := by cases st <;> rfl

end Sys2Proof.Machine
end

