-- ==== Sys2Proof/Laws/HostOps.lean ====
section
/-! SUPPORT. What the host's operation on a waiting response does. -/

namespace Sys2Proof.HostRef

open Sys2Proof.Machine

/-- With no response waiting there is nothing to take. -/
theorem takeWaiting_of_not_resp {s : State} (h : s.phase ≠ .resp) : takeWaiting s = s := by
  simp [takeWaiting, h]

/-- One step in which the host takes a waiting response. -/
theorem takeWaiting_of_resp {s : State} (h : s.phase = .resp) :
    takeWaiting s = { s with host := [], phase := .idle } := by
  have e : (Port.age 0) = id := funext age_zero
  simp [takeWaiting, h, advance, step, cycle, react, State.inputs, State.arrive, State.takeResponse, State.elapse,
    Device.update]

/-- Afterwards no response waits. -/
theorem takeWaiting_phase (s : State) : (takeWaiting s).phase ≠ .resp := by
  by_cases h : s.phase = .resp
  · simp [takeWaiting_of_resp h]
  · simpa [takeWaiting_of_not_resp h] using h

end Sys2Proof.HostRef
end

