-- ==== Sys2Proof/Laws/PerInstr.lean ====
section
/-! SUPPORT. Per-command families: a Statement about a command as syntax, and one lemma per constructor. -/

/-- The command's word has its row's fixed bits (30_encoding.md R105). -/
def Sys2Proof.Laws.RowBits.Statement (i : Sys2Proof.Instr) : Prop :=
  Sys2Proof.encode i &&& i.mask = i.matchBits

namespace Sys2Proof.Laws.RowBits

theorem select (a : Byte) : Statement (.select a) := by
  simp only [Statement, encode, Instr.mask, Instr.matchBits]; revert a; decide

theorem read (a : Byte) : Statement (.read a) := by
  simp only [Statement, encode, Instr.mask, Instr.matchBits]; revert a; decide

theorem readPair (a : Byte) : Statement (.readPair a) := by
  simp only [Statement, encode, Instr.mask, Instr.matchBits]; revert a; decide

theorem write (a v : Byte) : Statement (.write a v) := by
  simp only [Statement, encode, Instr.mask, Instr.matchBits]
  apply BitVec.eq_of_getLsbD_eq
  intro i hi
  interval_cases i <;> simp only [BitVec.getLsbD_and, BitVec.getLsbD_append] <;> simp

theorem step (u : UnitNo) (d : Direction) (c : StepCount) : Statement (.step u d c) := by
  simp only [Statement, encode, Instr.mask, Instr.matchBits]
  apply BitVec.eq_of_getLsbD_eq
  intro i hi
  interval_cases i <;> simp only [BitVec.getLsbD_and, BitVec.getLsbD_append] <;> simp

theorem emit (u : UnitNo) : Statement (.emit u) := by
  simp only [Statement, encode, Instr.mask, Instr.matchBits]; revert u; decide

end Sys2Proof.Laws.RowBits
end

