-- ==== Sys2Proof/Tests/Slice0.lean ====
section
/-! SUPPORT. Tests whose expected results are the spec's: the vectors and programs of 95_test_vectors.md, the encodings
of 30_encoding.md R111. -/

namespace Sys2Proof.Tests

open Sys2Proof.Machine Sys2Proof.HostRef

/-! ### Well-formedness: each check refuses an ill-formed command -/

theorem test_wf_refuses_step_unit : Instr.wellFormed .two (.step 2 .cw 1) = false := by decide
theorem test_wf_refuses_emit_unit : Instr.wellFormed .three (.emit 3) = false := by decide
theorem test_wf_accepts_last_unit : Instr.wellFormed .four (.step 3 .ccw 1) = true := by decide

/-! ### Decoding: words written out from R102, R103 (V1, R111) -/

theorem test_decode_select : decode .two 0b00010000011010110000000000000000 = .ok (.select 0x6B) := by decide
theorem test_decode_read : decode .two 0b00100000000111000000000000000000 = .ok (.read 0x1C) := by decide
theorem test_decode_readPair : decode .two 0b00110000001110110000000000000000 = .ok (.readPair 0x3B) := by decide
theorem test_decode_write : decode .two 0b01000000000111000000000011111111 = .ok (.write 0x1C 0xFF) := by decide
theorem test_decode_step_cw : decode .two 0b10000000111111111111111111111111 = .ok (.step 0 .cw 16777215) := by decide
theorem test_decode_step_ccw : decode .two 0b10000101000000000000000000001011 = .ok (.step 1 .ccw 11) := by decide
theorem test_decode_emit : decode .two 0b10010100000000000000000000000000 = .ok (.emit 1) := by decide
theorem test_decode_step_unit_two_of_four : decode .four 0x88000001 = .ok (.step 2 .cw 1) := by decide
theorem test_decode_step_unit_two_of_two : decode .two 0x88000001 = .error .noSuchUnit := by decide
theorem test_decode_op_zero : decode .two 0 = .error .reservedOp := by decide
theorem test_decode_op_five : decode .two 0x50000000 = .error .reservedOp := by decide
theorem test_decode_formatR_bits : decode .two 0x116B0000 = .error .reservedBits := by decide
theorem test_decode_select_value : decode .two 0x106B0001 = .error .reservedBits := by decide
theorem test_decode_readPair_value : decode .two 0x303B0080 = .error .reservedBits := by decide
theorem test_decode_write_bit15 : decode .two 0x401C8008 = .error .reservedBits := by decide
theorem test_decode_step_bit25 : decode .two 0x82000003 = .error .reservedBits := by decide
theorem test_decode_emit_dir : decode .two 0x91000000 = .error .reservedBits := by decide
theorem test_decode_emit_count : decode .two 0x90000001 = .error .reservedBits := by decide
theorem test_encode_write : encode (.write 0x1C 0x08) = 0x401C0008 := by decide
theorem test_encode_step : encode (.step 3 .ccw 16777215) = 0x8DFFFFFF := by decide

/-! ### The machine -/

/-- A block just after reset with `DEV_ADDR = 0x68` (a test value, I4), these bus answers and these device registers. -/
def bench (bus : List Draw) (regs : Memory) : State :=
  { Machine.State.reset with
    params := { nSeq := .two, tSettle := 10 }
    devAddr := 0x68
    bus := bus
    dev := { regs := regs, ptr := 0 } }

/-- The same with these indices. -/
def benchIdx (i j : SeqIndex) : State := { bench [] [] with idx := ⟨i, j, 0, 0⟩ }

/-- The state after one step that presents a word. -/
def afterWord (w : Word) (s : State) : State := advance { cmdValid := true, cmdWord := w } s

/-- The device registers of V12 and P2. -/
def someRegs : Memory := [(0x1C, 0x08), (0x3B, 0x12), (0x3C, 0x34)]

/-- V10. -/
theorem test_select_ok :
    (afterWord 0x106B0000 (bench [.reference] [])).events = [.busWrite 0x68 [0x6B] .ok, .respond .ok 0] := by decide

/-- V10: the reference device's pointer. -/
theorem test_select_ptr : (afterWord 0x106B0000 (bench [.reference] [])).dev.ptr = 0x6B := by decide

/-- V11: not sign-extended. -/
theorem test_read_byte80 :
    (afterWord 0x201C0000 (bench [.reference, .answers 0x80 default] [])).rspData = 0x0080 := by decide

/-- V11: the select fails, no read. -/
theorem test_read_select_fails :
    (afterWord 0x201C0000 (bench [.fails default] [])).events
      = [.busWrite 0x68 [0x1C] .fail, .respond .busFail 0] := by decide

/-- V31: a read that never answers gives no response and leaves the block busy. -/
theorem test_read_hangs :
    (fun s : Machine.State => (s.events, s.phase, cmdReady false s, busy false s))
        (afterWord 0x201C0000 (bench [.reference, .silent true default] []))
      = ([.busWrite 0x68 [0x1C] .ok, .busRead 0x68 .silent], .exec, false, true) := by decide

/-- V12. -/
theorem test_readPair_ok :
    (fun s : Machine.State => (s.events, s.rspData, s.hi, s.dev.ptr))
        (afterWord 0x303B0000 (bench [.reference, .reference, .reference] someRegs))
      = ([.busWrite 0x68 [0x3B] .ok, .busRead 0x68 (.ok 0x12), .busRead 0x68 (.ok 0x34), .respond .ok 0x1234],
          0x1234, 0x12, 0x3D) := by decide

/-- V12: the low read fails; HI keeps the high byte, the data is 0. -/
theorem test_readPair_low_fails :
    (fun s : Machine.State => (s.rspStatus, s.rspData, s.hi))
        (afterWord 0x303B0000 (bench [.reference, .reference, .fails default] someRegs))
      = (1, 0, 0x12) := by decide

/-- V15. -/
theorem test_write_ok :
    (fun s : Machine.State => (s.events, s.dev.reg 0x1C, s.dev.ptr)) (afterWord 0x401C0008 (bench [.reference] []))
      = ([.busWrite 0x68 [0x1C, 0x08] .ok, .respond .ok 0], 0x08, 0x1D) := by decide

/-- V15: the transaction fails. -/
theorem test_write_fails : (afterWord 0x401C0008 (bench [.fails default] [])).rspStatus = 1 := by decide

/-- V20, CW 11 from 0: the trace. -/
theorem test_step_cw11 :
    (fun s : Machine.State => (s.events, s.idxOf 0)) (afterWord 0x8000000B (benchIdx 0 0))
      = ([.portWrite 0 6, .portFlush 0, .settle 0, .portWrite 0 8, .portFlush 0, .settle 0,
          .portWrite 0 3, .portFlush 0, .settle 0, .portWrite 0 6, .portFlush 0, .settle 0, .respond .ok 0], 3) := by
  decide

/-- V20, CCW 5 from 1: no settle after the remainder. -/
theorem test_step_ccw5 :
    (fun s : Machine.State => (s.events, s.idxOf 0, s.portOf 0 |>.flushed)) (afterWord 0x81000005 (benchIdx 1 0))
      = ([.portWrite 0 8, .portFlush 0, .settle 0, .portWrite 0 4, .portFlush 0, .respond .ok 0], 4, 4) := by decide

/-- V22. -/
theorem test_emit_unit1 :
    (afterWord 0x94000000 (benchIdx 0 5)).events = [.portWrite 1 12, .portFlush 1, .respond .ok 0] := by decide

/-- V23: unit 0 is untouched. -/
theorem test_step_unit_independent :
    (fun s : Machine.State => (s.idx, (s.portOf 0).driven)) (afterWord 0x84000003 (benchIdx 4 2)) = (⟨4, 5, 0, 0⟩, false) := by
  decide

/-- V2: an ILLEGAL word responds and does nothing else. -/
theorem test_illegal_word :
    (fun s : Machine.State => (s.events, s.rspStatus, s.idx)) (afterWord 0x88000001 (benchIdx 4 2))
      = ([.respond .illegal 0], 2, ⟨4, 2, 0, 0⟩) := by decide

/-- V32: reset samples `cfg_dev_addr` and issues no event. -/
theorem test_reset :
    (fun s : Machine.State => (s.events, s.idx, s.phase, s.hi, s.devAddr, rspValid false s))
        (advance { rst := .high, cfgDevAddr := 0x68 } (benchIdx 5 6))
      = ([], ⟨0, 0, 0, 0⟩, .idle, 0, 0x68, false) := by decide

/-- V33: reset in the middle of a STEP, after `P(0,6) S(0) P(0,8)`. -/
theorem test_reset_mid_step :
    (fun s : Machine.State => (s.events.length, s.phase, s.idxOf 0, (s.portOf 0).flushed))
        (advance { rst := .rises 5, cfgDevAddr := 0x68, cmdValid := true, cmdWord := 0x80000009 } (benchIdx 0 0))
      = (5, .idle, 0, 8) := by decide

/-- V34: a STEP on unit 0 too soon after a counter-clockwise one is a host fault; after the wait it is none. -/
theorem test_settle_duty :
    let once := advance { rspReady := true } (afterWord 0x81000001 (benchIdx 0 0))
    (afterWord 0x80000001 once).hostFaults = [.settleTooSoon 0] ∧
      (afterWord 0x80000001 (advance { wait := 10 } once)).hostFaults = [] ∧
      (afterWord 0x84000001 once).hostFaults = [] := by decide

/-- A word presented while a response waits is not accepted (R42). -/
theorem test_not_accepted_in_resp :
    (afterWord 0x94000000 (afterWord 0x90000000 (benchIdx 0 5))).events
      = [.portWrite 0 1, .portFlush 0, .respond .ok 0] := by decide

/-- The machine's first step after reset runs the table's words. -/
theorem test_withFetchWord_emit :
    (match step (State.reset.withFetchWord 32 0x90000000) with
      | .next s => s.events
      | _ => []) = [.portWrite 0 1, .portFlush 0, .respond .ok 0] := by decide

/-! ### Host reference operations and the assembler -/

/-- V40, V41, V42, V43: host arithmetic. -/
theorem test_host_arithmetic :
    accValue (-32768) 2048 = -15696 ∧ accValue 32767 16384 = 1961 ∧ gyroValue (-32768) 328 = -999 ∧
      gyroValue 131 164 = 7 ∧ tempValue (-11000) = 0 ∧ tempValue 32767 = 127 ∧ tempValue (-32768) = -64 ∧
      toSteps 359 1 4096 = 4084 ∧ toSteps 1 10 4096 = 1 ∧ toSteps 45 1 200 = 25 := by decide

/-- V44. -/
theorem test_control_command :
    controlCommand 2000 0 2001 = some (.step 0 .ccw 1) ∧ controlCommand 2000 0 2000 = none ∧
      controlCommand 2000 1 (-2000) = none ∧ controlCommand 2000 1 (-2001) = some (.step 1 .cw 1) := by decide

/-- Program P2's `READTEMP`: 20. -/
theorem test_readTemp :
    (match readTemp defaultParams (bench [.reference, .reference, .reference] [(0x41, 0xF1), (0x42, 0x50)]) with
      | .value a _ => some a
      | .stopped _ _ => none) = some 20 := by decide

/-- R190 (a): a command begun while an older response waits is issued, and its own response is the one taken. -/
theorem test_call_after_waiting_response :
    (match call (.read 0x1C) (afterWord 0x106B0000 (bench [.reference, .reference, .reference] someRegs))
        (fun d s => HostResult.value d s) with
      | .value d s => some (d, s.phase)
      | .stopped _ _ => none) = some (0x0008, .idle) := by decide

/-- R111. -/
theorem test_assemble :
    Asm.assembleLine Config.defaultRegs .two "STEP 1, CCW, 11 ; note" = .command 0x8500000B ∧
      Asm.assembleLine Config.defaultRegs .two "WRITE REG_ACCEL_CFG, 0x08" = .command 0x401C0008 ∧
      Asm.assembleLine Config.defaultRegs .two "READ 256" = .refused ∧
      Asm.assembleLine Config.defaultRegs .two "STEP 0, CW, 16777216" = .refused ∧
      Asm.assembleLine Config.defaultRegs .two "; nothing" = .empty := by decide

/-! ### Witnesses: a concrete state and operands that meet the hypotheses of each statement, clause by clause -/

/-- A block that has accepted a command and runs it, with these bus answers. -/
def running (bus : List Draw) : Machine.State := { bench bus someRegs with phase := .exec }

/-- A block in this phase with these inputs at hand. -/
def facing (ph : Phase) (p : Inputs) : Machine.State := { bench [] [] with phase := ph, host := [p] }

/-- A block waiting on a read that is never answered. -/
def stuckBench (p : Inputs) : Machine.State :=
  { facing .exec p with cmd := 0x201C0000, outstanding := some { req := .read 0x68, taken := true } }

theorem witness_DecodeOfEncode : Instr.wellFormed .two (.step 1 .ccw 16777215) = true := by decide

theorem witness_EncodeOfDecode : decode .four 0x8DFFFFFF = .ok (.step 3 .ccw 16777215) := by decide

theorem witness_DecodeByOpField :
    opField 0x10FF0000 = 0x1 ∧ opField 0x20000000 = 0x2 ∧ opField 0x30FF0000 = 0x3 ∧ opField 0x40FF00FF = 0x4 ∧
      opField 0x84FFFFFF = 0x8 ∧ opField 0x94000000 = 0x9 ∧ opField 0xFFFFFFFF = 0xF ∧ opField 0 = 0x0 := by decide

theorem witness_AssembledWordsAreLegal :
    Asm.assembleLine Config.defaultRegs .two "STEP 1, CW, 16777215" = .command 0x84FFFFFF := by decide

/-- Numbers at and past the ends of the fields: 255, 256, 16777215, 16777216, the last unit, one more. -/
theorem witness_AssembledWordsAreLegal_numbers :
    Asm.number "255".toList = some 255 ∧ Asm.number "0x100".toList = some 256 ∧
      Asm.number "0xFFFFFF".toList = some 16777215 ∧ Asm.number "16777216".toList = some 16777216 ∧
      Asm.number "1".toList = some 1 ∧ Asm.number "2".toList = some 2 := by decide

theorem witness_AssemblerNamesAndComments :
    ("REG_TEMP_L", Config.defaultRegs.tempH + 1) ∈
      [("REG_TEMP_H", Config.defaultRegs.tempH), ("REG_TEMP_L", Config.defaultRegs.tempH + 1)] := by decide

theorem witness_StepRunsPresentedCommand :
    let s := facing .idle { cmdValid := true, cmdWord := 0x94000000 }
    s.phase = .idle ∧ s.inputs.rst ≠ .high ∧ s.inputs.cmdValid = true ∧
      decode s.params.nSeq s.inputs.cmdWord = .ok (.emit 1) := by decide

theorem witness_PlacedWordRunsNext :
    decode (bench [] []).params.nSeq (BitVec.ofNat 32 (0x84000001 % 2 ^ 32)) = .ok (.step 1 .cw 1) := by decide

theorem witness_CommandAcceptedOnlyWhenReady :
    (facing .idle { cmdValid := true }).inputs.rst ≠ .high ∧ (facing .idle { cmdValid := true }).phase = .idle ∧
      (facing .idle { cmdValid := true }).inputs.cmdValid = true ∧
      (facing .resp { cmdValid := true }).inputs.rst ≠ .high ∧ (facing .resp { cmdValid := true }).phase ≠ .idle := by
  decide

theorem witness_OneResponsePerCommand :
    (facing .resp { rspReady := true }).inputs.rspReady = true ∧ (facing .resp {}).inputs.rspReady = false ∧
      (facing .resp {}).phase = .resp ∧ (facing .resp {}).inputs.rst ≠ .high := by decide

theorem witness_OneResponsePerCommand_accepted :
    let s := facing .idle { cmdValid := true, cmdWord := 0x90000000 }
    s.inputs.rst = .low ∧ s.phase = .idle ∧ s.inputs.cmdValid = true ∧ ∃ t, step s = .next t :=
  ⟨rfl, rfl, rfl, _, rfl⟩

theorem witness_IdleBlockWaits :
    (facing .idle {}).inputs.rst ≠ .high ∧ (facing .idle {}).phase = .idle ∧
      (facing .idle {}).inputs.cmdValid = false := by decide

theorem witness_IllegalWordOnlyResponds :
    let s := facing .idle { cmdValid := true, cmdWord := 0x88000001 }
    s.phase = .idle ∧ s.timer = 0 ∧ s.inputs.rst = .low ∧ s.inputs.cmdValid = true ∧
      decode s.params.nSeq s.inputs.cmdWord = .error .noSuchUnit := by decide

theorem witness_AbsentUnitIsIllegal : Undisturbed (running []) ∧ (running []).hasUnit 2 = false :=
  ⟨⟨rfl, rfl⟩, by decide⟩

theorem witness_ResponseStatusesAndData :
    let s := facing .idle { cmdValid := true, cmdWord := 0x50000000 }
    ∃ t, step s = .next t ∧ t.events = s.events ++ [.respond .illegal 0] := ⟨_, rfl, by decide⟩

theorem witness_SelectCompletes :
    Undisturbed (running [.reference]) ∧ drawWriteAnswer ((running [.reference]).drawAt 0) = .ok :=
  ⟨⟨rfl, rfl⟩, by decide⟩

theorem witness_WriteCompletes :
    Undisturbed (running [.answers 0 default]) ∧ drawWriteAnswer ((running [.answers 0 default]).drawAt 0) = .ok :=
  ⟨⟨rfl, rfl⟩, by decide⟩

theorem witness_ReadCompletes :
    let s := running [.reference, .answers 0x80 default]
    Undisturbed s ∧ drawWriteAnswer (s.drawAt 0) = .ok ∧
      drawReadAnswer (drawDeviceAfterWrite s.dev [0x1C] (s.drawAt 0)) (s.drawAt 1) = .ok 0x80 :=
  ⟨⟨rfl, rfl⟩, by decide, by decide⟩

theorem witness_ReadPairCompletes :
    let s := running [.reference, .answers 0x80 default, .answers 0xFF default]
    let d := drawDeviceAfterWrite s.dev [0xFF] (s.drawAt 0)
    Undisturbed s ∧ drawWriteAnswer (s.drawAt 0) = .ok ∧ drawReadAnswer d (s.drawAt 1) = .ok 0x80 ∧
      drawReadAnswer (drawDeviceAfterRead d (s.drawAt 1)) (s.drawAt 2) = .ok 0xFF :=
  ⟨⟨rfl, rfl⟩, by decide, by decide, by decide⟩

theorem witness_FailedWriteEndsCommand :
    firstBytes (.write 0x1C 8) = some [0x1C, 8] ∧ firstBytes (.readPair 0xFF) = some [0xFF] ∧
      Undisturbed (running [.fails default]) ∧ drawWriteAnswer ((running [.fails default]).drawAt 0) = .fail :=
  ⟨rfl, rfl, ⟨rfl, rfl⟩, by decide⟩

theorem witness_FailedFirstReadEndsCommand :
    let s := running [.reference, .fails default]
    Undisturbed s ∧ drawWriteAnswer (s.drawAt 0) = .ok ∧
      drawReadAnswer (drawDeviceAfterWrite s.dev [0x1C] (s.drawAt 0)) (s.drawAt 1) = .fail :=
  ⟨⟨rfl, rfl⟩, by decide, by decide⟩

theorem witness_FailedSecondReadEndsReadPair :
    let s := running [.reference, .reference, .fails default]
    let d := drawDeviceAfterWrite s.dev [0x3B] (s.drawAt 0)
    Undisturbed s ∧ drawWriteAnswer (s.drawAt 0) = .ok ∧ drawReadAnswer d (s.drawAt 1) = .ok 0x12 ∧
      drawReadAnswer (drawDeviceAfterRead d (s.drawAt 1)) (s.drawAt 2) = .fail :=
  ⟨⟨rfl, rfl⟩, by decide, by decide, by decide⟩

theorem witness_UnansweredWriteHangs :
    let s := running [.silent false default]
    firstBytes (.select 0x6B) = some [0x6B] ∧ Undisturbed s ∧ s.phase = .exec ∧
      drawWriteAnswer (s.drawAt 0) = .silent := ⟨rfl, ⟨rfl, rfl⟩, rfl, by decide⟩

theorem witness_UnansweredReadHangs_first :
    let s := running [.reference, .silent true default]
    Undisturbed s ∧ s.phase = .exec ∧ drawWriteAnswer (s.drawAt 0) = .ok ∧
      drawReadAnswer (drawDeviceAfterWrite s.dev [0x3B] (s.drawAt 0)) (s.drawAt 1) = .silent :=
  ⟨⟨rfl, rfl⟩, rfl, by decide, by decide⟩

theorem witness_UnansweredReadHangs_second :
    let s := running [.reference, .reference, .silent true default]
    let d := drawDeviceAfterWrite s.dev [0x3B] (s.drawAt 0)
    Undisturbed s ∧ s.phase = .exec ∧ drawWriteAnswer (s.drawAt 0) = .ok ∧ drawReadAnswer d (s.drawAt 1) = .ok 0x12 ∧
      drawReadAnswer (drawDeviceAfterRead d (s.drawAt 1)) (s.drawAt 2) = .silent :=
  ⟨⟨rfl, rfl⟩, rfl, by decide, by decide, by decide⟩

theorem witness_OnlyResetFreesAStuckBlock :
    (Stuck (stuckBench {}) ∧ (stuckBench {}).inputs.rst ≠ .high) ∧
      (Stuck (stuckBench { rst := .high }) ∧ (stuckBench { rst := .high }).inputs.rst = .high) :=
  ⟨⟨⟨rfl, rfl⟩, by decide⟩, ⟨rfl, rfl⟩, rfl⟩

theorem witness_RpmFrame :
    isRpm (.write 0 0xFF) = true ∧ Undisturbed (running [.reference]) ∧
      ∃ t, exec (.write 0 0xFF) (running [.reference]) = .next t := ⟨rfl, ⟨rfl, rfl⟩, _, rfl⟩

theorem witness_RpmForgetsThePast :
    let s := running [.reference, .reference]
    let s' := { running [.reference, .reference] with hi := 0x77, rspData := 0x1234, events := [.settle 0] }
    isRpm (.read 0x1C) = true ∧ Undisturbed s ∧ Undisturbed s' ∧ s.phase = .exec ∧ s'.phase = .exec ∧
      s.devAddr = s'.devAddr ∧ s.dev = s'.dev ∧ (∀ n, s.drawAt n = s'.drawAt n) ∧
      (∃ t, exec (.read 0x1C) s = .next t) ∧ ∃ t, exec (.read 0x1C) s' = .next t :=
  ⟨rfl, ⟨rfl, rfl⟩, ⟨rfl, rfl⟩, rfl, rfl, rfl, rfl, fun _ => rfl, ⟨_, rfl⟩, _, rfl⟩

/-- Reference answers, as many as a statement asks for. -/
theorem witness_referenceAnswers :
    Undisturbed (running [.reference, .reference, .reference, .reference]) ∧
      ∀ n, n < 4 → (running [.reference, .reference, .reference, .reference]).drawAt n = .reference :=
  ⟨⟨rfl, rfl⟩, by decide⟩

theorem witness_ReferenceDeviceRegisters :
    let s := running [.reference, .reference, .reference]
    (∃ t, exec (.select 0xFF) s = .next t) ∧ (∃ t, exec (.read 0xFF) s = .next t) ∧
      (∃ t, exec (.readPair 0xFF) s = .next t) ∧ (∃ t, exec (.write 0xFF 1) s = .next t) ∧ (0xFE : Byte) ≠ 0xFF :=
  ⟨⟨_, rfl⟩, ⟨_, rfl⟩, ⟨_, rfl⟩, ⟨_, rfl⟩, by decide⟩

theorem witness_ReadPairIsTwoReads :
    let s := running [.reference, .reference, .reference, .reference]
    ∃ p r q, exec (.readPair 0xFF) s = .next p ∧ exec (.read 0xFF) s = .next r ∧ exec (.read (0xFF + 1)) r = .next q :=
  ⟨_, _, _, rfl, rfl, rfl⟩

/-- The hypotheses of the statements about STEP and EMIT, at the last unit and at counts 0 and 16777215. -/
theorem witness_seqCommands :
    Undisturbed (running []) ∧ (running []).hasUnit 1 = true ∧ (0 : UnitNo) ≠ 1 ∧
      (∃ t, exec (.step 1 .cw 0) (running []) = .next t) ∧ (∃ t, exec (.step 1 .ccw 16777215) (running []) = .next t) ∧
      ∃ t, exec (.emit 1) (running []) = .next t :=
  ⟨⟨rfl, rfl⟩, by decide, by decide, ⟨_, rfl⟩, ⟨_, rfl⟩, _, rfl⟩

theorem witness_StepThereAndBack :
    (3 : StepCount).toNat % 8 = (11 : StepCount).toNat % 8 ∧ Direction.cw ≠ .ccw ∧
      ∃ t r, exec (.step 0 .cw 3) (running []) = .next t ∧ exec (.step 0 .ccw 3) t = .next r :=
  ⟨by decide, by decide, _, _, rfl, rfl⟩

theorem witness_SettleBreachOnlyRecorded :
    (∃ t, exec (.step 0 .cw 1) ((running []).setPort 0 { (running []).portOf 0 with duty := some 9 }) = .next t) ∧
      9 < (running []).params.tSettle ∧ ¬ 10 < (running []).params.tSettle := ⟨⟨_, rfl⟩, by decide, by decide⟩

theorem witness_SettleDutyAfterCounterclockwise :
    (∃ t r, exec (.step 0 .ccw 1) (running []) = .next t ∧ exec (.step 0 .cw 0) (t.elapse 9) = .next r) ∧
      9 < (running []).params.tSettle ∧ (running []).params.tSettle ≤ 10 := ⟨⟨_, _, rfl, rfl⟩, by decide, by decide⟩

theorem witness_resetStep : (facing .resp { rst := .high, cfgDevAddr := 0x68 }).inputs.rst = .high := by decide

theorem witness_ResetIssuesNoEvent :
    (facing .exec { rst := .high }).inputs.rst = .high ∧ (facing .exec { rst := .high }).inputs.sensor = [] := by decide

/-- A block that runs a command during which reset rises after `k` more events. -/
def resetting (k : Nat) : Machine.State := { running [.reference, .reference] with pendingReset := some (k, 0x68) }

theorem witness_ResetDuringCommand :
    (resetting 1).phase = .exec ∧ (resetting 1).pendingReset = some (1, 0x68) ∧
      ∃ t, exec (.read 0x1C) (resetting 1) = .next t ∧ t.phase = .idle := ⟨rfl, rfl, _, rfl, rfl⟩

/-- The second clause at its ends: READ, which issues three events with no reset, cut before its response, and EMIT cut before
its first event. -/
theorem witness_ResetDuringCommand_cuts :
    (match exec (.read 0x1C) { resetting 2 with pendingReset := none } with
      | .next r => r.events
      | _ => []) = [.busWrite 0x68 [0x1C] .ok, .busRead 0x68 (.ok 0x08), .respond .ok 0x0008] ∧
    (match exec (.read 0x1C) (resetting 2) with
      | .next t => (t.phase, t.events.length)
      | _ => (.resp, 0)) = (.idle, 2) ∧
    (match exec (.emit 1) (resetting 0) with
      | .next t => (t.phase, t.events.length)
      | _ => (.resp, 0)) = (.idle, 0) := by decide

theorem witness_ResetCutsStepShort :
    (resetting 5).hasUnit 0 = true ∧ (resetting 5).pendingReset = some (5, 0x68) ∧
      5 ≤ (stepEvents 0 .ccw ((resetting 5).idxOf 0) 3).length := ⟨by decide, rfl, by decide⟩

theorem witness_EmitAfterReset : (running []).hasUnit 1 = true := by decide

theorem witness_StepKeepsInvariant : BlockInvariant (bench [] someRegs) ∧ ∃ t, step (bench [] someRegs) = .next t := by
  refine ⟨⟨by decide, by decide, rfl, rfl, rfl, by decide, fun _ => rfl, by decide, ?_, ?_, ?_, ?_⟩, _, rfl⟩
  · intro o h; cases h
  · intro h; cases h
  · intro u
    have h : ∀ u : UnitNo, ((bench [] someRegs).portOf u).driven = false := by decide
    simp [h u]
  · decide

theorem witness_BusTransactionsAreLegal :
    ∃ t, step { facing .idle { cmdValid := true, cmdWord := 0x40FF00FF } with bus := [.reference] } = .next t ∧
      t.events = [.busWrite 0x68 [0xFF, 0xFF] .ok, .respond .ok 0] := ⟨_, rfl, by decide⟩

theorem witness_AddressAndParametersFixed :
    ∃ t, step (facing .idle { rst := .high, cfgDevAddr := 0x7F }) = .next t ∧ t.devAddr = 0x7F := ⟨_, rfl, rfl⟩

/-- A STEP word held while the block is stuck, while a response waits, and one not presented as valid. -/
theorem witness_OnlyStepAndResetMoveAnIndex_held :
    (stuckBench { cmdValid := true, cmdWord := 0x80000003 }).phase ≠ .idle ∧
      (stuckBench { cmdValid := true, cmdWord := 0x80000003 }).inputs.rst = .low ∧
      (facing .resp { cmdValid := true, cmdWord := 0x80000003 }).phase ≠ .idle ∧
      (facing .idle { cmdWord := 0x80000003 }).inputs.cmdValid = false := by decide

/-- A word that decodes to no STEP. -/
theorem witness_OnlyStepAndResetMoveAnIndex :
    let s := facing .idle { cmdValid := true, cmdWord := 0x90000000 }
    (∃ t, step s = .next t) ∧ s.inputs.rst = .low ∧ ∀ u d c, decode s.params.nSeq s.inputs.cmdWord ≠ .ok (.step u d c) := by
  refine ⟨⟨_, rfl⟩, rfl, fun u d c h => ?_⟩
  have e : decode .two 0x90000000 = .ok (.emit 0) := by decide
  cases e.symm.trans h

theorem witness_AccelSensitivityAfterRange :
    let s := bench [.reference, .reference, .reference] []
    s.phase = .idle ∧ (∀ n, n < 3 → s.drawAt n = .reference) ∧
      (match setAccelRange defaultParams 3 s with
        | .value _ t => match getAccelSens defaultParams t (fun n s => HostResult.value n s) with
          | .value n _ => some n
          | .stopped _ _ => none
        | .stopped _ _ => none) = some 2048 := ⟨rfl, by decide, by decide⟩

end Sys2Proof.Tests
end

section
/-! SUPPORT. What one step can do, said once: an equation for each of its branches, and all branches together. -/

namespace Sys2Proof.Machine

/-! ### The branches of a step (10_state.md R35, R42, R43; 60_exceptions.md R237) -/

theorem step_of_reset {s : State} (h : s.inputs.rst = .high) :
    step s = .next (resetBlock s.inputs.cfgDevAddr s.arrive) := by
  simp [step, cycle, react, h]

theorem step_of_presented {s : State} (hr : s.inputs.rst ≠ .high) (hp : s.phase = .idle)
    (hv : s.inputs.cmdValid = true) : step s = runAccepted (s.arrive.accept s.inputs) := by
  simp [step, cycle, react, hr, hp, hv]

theorem step_of_nothing_presented {s : State} (hr : s.inputs.rst ≠ .high) (hp : s.phase = .idle)
    (hv : s.inputs.cmdValid = false) : step s = .next s.arrive := by
  simp [step, cycle, react, hr, hp, hv]

theorem step_of_exec {s : State} (hr : s.inputs.rst ≠ .high) (hp : s.phase = .exec) : step s = .next s.arrive := by
  simp [step, cycle, react, hr, hp]

theorem step_of_response_taken {s : State} (hr : s.inputs.rst ≠ .high) (hp : s.phase = .resp)
    (hv : s.inputs.rspReady = true) : step s = .next s.arrive.takeResponse := by
  simp [step, cycle, react, hr, hp, hv]

theorem step_of_response_waiting {s : State} (hr : s.inputs.rst ≠ .high) (hp : s.phase = .resp)
    (hv : s.inputs.rspReady = false) : step s = .next s.arrive := by
  simp [step, cycle, react, hr, hp, hv]

/-- All that a step can do: a reset, an accepted word, a response taken, or waiting. -/
theorem step_cases {s t : State} (h : step s = .next t) :
    (s.inputs.rst = .high ∧ t = resetBlock s.inputs.cfgDevAddr s.arrive) ∨
    (s.inputs.rst ≠ .high ∧ s.phase = .idle ∧ s.inputs.cmdValid = true ∧
      runAccepted (s.arrive.accept s.inputs) = .next t) ∨
    (s.inputs.rst ≠ .high ∧ s.phase = .resp ∧ s.inputs.rspReady = true ∧ t = s.arrive.takeResponse) ∨
    (s.inputs.rst ≠ .high ∧ ((s.phase = .idle ∧ s.inputs.cmdValid = false) ∨ s.phase = .exec ∨
      (s.phase = .resp ∧ s.inputs.rspReady = false)) ∧ t = s.arrive) := by
  by_cases hr : s.inputs.rst = .high
  · rw [step_of_reset hr] at h
    exact .inl ⟨hr, (Host.Outcome.next.inj h).symm⟩
  refine .inr ?_
  cases hp : s.phase with
  | idle =>
    cases hv : s.inputs.cmdValid with
    | true => exact .inl ⟨hr, rfl, rfl, step_of_presented hr hp hv ▸ h⟩
    | false =>
      rw [step_of_nothing_presented hr hp hv] at h
      exact .inr (.inr ⟨hr, .inl ⟨rfl, rfl⟩, (Host.Outcome.next.inj h).symm⟩)
  | exec =>
    rw [step_of_exec hr hp] at h
    exact .inr (.inr ⟨hr, .inr (.inl rfl), (Host.Outcome.next.inj h).symm⟩)
  | resp =>
    cases hv : s.inputs.rspReady with
    | true =>
      rw [step_of_response_taken hr hp hv] at h
      exact .inr (.inl ⟨hr, rfl, rfl, (Host.Outcome.next.inj h).symm⟩)
    | false =>
      rw [step_of_response_waiting hr hp hv] at h
      exact .inr (.inr ⟨hr, .inr (.inr ⟨rfl, rfl⟩), (Host.Outcome.next.inj h).symm⟩)

/-- A step that accepts nothing, for the phase is not IDLE, lets the inputs arrive and may take the response. -/
theorem step_of_not_idle {s : State} (hr : s.inputs.rst ≠ .high) (hp : s.phase ≠ .idle) :
    step s = .next s.arrive ∨ step s = .next s.arrive.takeResponse := by
  cases hph : s.phase with
  | idle => exact absurd hph hp
  | exec => exact .inl (step_of_exec hr hph)
  | resp =>
    cases hv : s.inputs.rspReady with
    | true => exact .inr (step_of_response_taken hr hph hv)
    | false => exact .inl (step_of_response_waiting hr hph hv)

/-! ### The reset that the inputs announce -/

theorem announcedReset_of_low {p : Inputs} (h : p.rst = .low) : announcedReset p = none := by
  simp [announcedReset, h]

theorem announcedReset_eq_some {p : Inputs} {k : Nat} {a : BusAddr} :
    announcedReset p = some (k, a) ↔ p.rst = .rises k ∧ p.cfgDevAddr = a := by
  cases h : p.rst <;> simp [announcedReset, h]

/-! ### An accepted word -/

theorem runAccepted_of_legal {s : State} {i : Instr} (h : decode s.params.nSeq s.cmd = .ok i) :
    runAccepted s = exec i s := by
  simp [runAccepted, h]

theorem runAccepted_of_illegal {s : State} {x : Illegal} (h : decode s.params.nSeq s.cmd = .error x) :
    runAccepted s = .next (raiseIllegal s) := by
  simp [runAccepted, h]

theorem execStep_of_unit {s : State} {u : UnitNo} (hu : s.hasUnit u = true) (d : Direction) (c : StepCount) :
    exec (.step u d c) s =
      .next (stepMain u d (c.toNat / 3) ((checkDuty u s).setRem c) (stepRemainder u d)) := by
  simp [exec, execStep, hu]

theorem execStep_of_no_unit {s : State} {u : UnitNo} (hu : s.hasUnit u = false) (d : Direction) (c : StepCount) :
    exec (.step u d c) s = .next (raiseIllegal s) := by
  simp [exec, execStep, hu]

theorem execEmit_of_unit {s : State} {u : UnitNo} (hu : s.hasUnit u = true) :
    exec (.emit u) s = .next (emission u s fun t =>
      gate t fun t => respondNow .ok 0 (if (s.portOf u).driven then t else oweSettle u t)) := by
  simp [exec, execEmit, hu]

theorem execEmit_of_no_unit {s : State} {u : UnitNo} (hu : s.hasUnit u = false) :
    exec (.emit u) s = .next (raiseIllegal s) := by
  simp [exec, execEmit, hu]

/-- An accepted word is a register command, a STEP or an EMIT of a unit the block has, or it is answered ILLEGAL. -/
theorem runAccepted_cases {s t : State} (h : runAccepted s = .next t) :
    (∃ i, decode s.params.nSeq s.cmd = .ok i ∧ isRpm i = true ∧ exec i s = .next t) ∨
    (∃ u d c, decode s.params.nSeq s.cmd = .ok (.step u d c) ∧ s.hasUnit u = true ∧
      exec (.step u d c) s = .next t) ∨
    (∃ u, s.hasUnit u = true ∧ exec (.emit u) s = .next t) ∨
    t = raiseIllegal s := by
  cases hd : decode s.params.nSeq s.cmd with
  | error x =>
    rw [runAccepted_of_illegal hd] at h
    exact .inr (.inr (.inr (Host.Outcome.next.inj h).symm))
  | ok i =>
    rw [runAccepted_of_legal hd] at h
    cases i with
    | select a => exact .inl ⟨_, rfl, rfl, h⟩
    | read a => exact .inl ⟨_, rfl, rfl, h⟩
    | readPair a => exact .inl ⟨_, rfl, rfl, h⟩
    | write a v => exact .inl ⟨_, rfl, rfl, h⟩
    | step u d c =>
      cases hu : s.hasUnit u with
      | true => exact .inr (.inl ⟨u, d, c, rfl, hu, h⟩)
      | false =>
        rw [execStep_of_no_unit hu] at h
        exact .inr (.inr (.inr (Host.Outcome.next.inj h).symm))
    | emit u =>
      cases hu : s.hasUnit u with
      | true => exact .inr (.inr (.inl ⟨u, hu, h⟩))
      | false =>
        rw [execEmit_of_no_unit hu] at h
        exact .inr (.inr (.inr (Host.Outcome.next.inj h).symm))

end Sys2Proof.Machine
end

section
/-! SUPPORT. Carrying a property through a command. A command is a chain of events, each given what follows it, so a
property `I` that holds between two events and a property `Q` of the state the command leaves are carried event by
event: the rules below say what is to be shown of each kind of update, once for all commands. -/

namespace Sys2Proof.Machine

/-- `op` keeps `I` on the way to `Q`: where what follows it leads from `I` to `Q`, so does all of it. -/
def Keeps (I Q : State → Prop) (op : State → (State → State) → State) : Prop :=
  ∀ s k, I s → (∀ t, I t → Q (k t)) → Q (op s k)

/-- `I` holds on both sides of what stands before every event, and a reset that is due there gives `Q`. -/
structure Carries (I Q : State → Prop) : Prop where
  due : ∀ s a, I s → s.pendingReset = some (0, a) → Q (resetBlock a s)
  nearer : ∀ s n a, I s → s.pendingReset = some (n + 1, a) → I (s.proceed (some (n, a)))
  quiet : ∀ s, I s → s.pendingReset = none → I (s.proceed none)

/-- The rule of every event. -/
theorem Carries.gate {I Q : State → Prop} (h : Carries I Q) {s : State} {k : State → State} (hs : I s)
    (hk : ∀ r, I (s.proceed r) → Q (k (s.proceed r))) : Q (gate s k) := by
  match hp : s.pendingReset with
  | none =>
    rw [gate_run hp]
    exact hk _ (h.quiet s hs hp)
  | some (0, a) =>
    rw [gate_reset hp]
    exact h.due s a hs hp
  | some (n + 1, a) =>
    rw [gate_nearer hp]
    exact hk _ (h.nearer s n a hs hp)

/-- Where `I` says that no reset is to come, only the undisturbed way on is left. -/
theorem Carries.of_no_reset {I Q : State → Prop} (hnone : ∀ s, I s → s.pendingReset = none)
    (hquiet : ∀ s, I s → I (s.proceed none)) : Carries I Q where
  due s a hs hp := by simp [hnone s hs] at hp
  nearer s n a hs hp := by simp [hnone s hs] at hp
  quiet s hs _ := hquiet s hs

/-! ### Register commands (40_register_protocol.md) -/

/-- `I` is carried through the bus transactions of a register command, and each way the command can end gives `Q`. -/
structure RpmCarries (I Q : State → Prop) : Prop extends Carries I Q where
  write : ∀ s bytes, I s → drawWriteAnswer (s.drawAt 0) ≠ .silent → I (s.afterWrite bytes)
  read : ∀ s, I s → drawReadAnswer s.dev (s.drawAt 0) ≠ .silent → I s.afterRead
  setHi : ∀ s b, I s → I (s.setHi b)
  respond : ∀ s st d, I s → s.timer = 0 → (st ≠ .ok → d = 0) → Q (respondNow st d s)
  hangWrite : ∀ s bytes taken, I s → s.timer = 0 → bytes.length = 1 ∨ bytes.length = 2 →
    drawWriteAnswer (s.drawAt 0) = .silent → Q (hang { req := .write s.devAddr bytes, taken := taken } (s.afterWrite bytes))
  hangRead : ∀ s taken, I s → s.timer = 0 → drawReadAnswer s.dev (s.drawAt 0) = .silent →
    Q (hang { req := .read s.devAddr, taken := taken } s.afterRead)

namespace RpmCarries

variable {I Q : State → Prop} (h : RpmCarries I Q)
include h

theorem respond_event {s : State} {st : Status} {d : Half} (hs : I s) (hd : st ≠ .ok → d = 0) :
    Q (Machine.respond st d s) :=
  h.gate hs fun _ hr => h.respond _ st d hr rfl hd

theorem busFail {s : State} (hs : I s) : Q (raiseBusFail s) := h.respond_event hs fun _ => rfl

theorem illegal {s : State} (hs : I s) : Q (raiseIllegal s) := h.respond_event hs fun _ => rfl

theorem busWrite {bytes : List Byte} (hb : bytes.length = 1 ∨ bytes.length = 2) :
    Keeps I Q (Machine.busWrite bytes) := by
  intro s k hs hk
  refine h.gate hs fun r hr => ?_
  cases hw : drawWriteAnswer ((s.proceed r).drawAt 0) with
  | ok => exact hk _ (h.write _ bytes hr (hw.trans_ne nofun))
  | fail => exact h.busFail (h.write _ bytes hr (hw.trans_ne nofun))
  | silent => exact h.hangWrite _ bytes _ hr rfl hb hw

theorem busRead {s : State} {k : Byte → State → State} (hs : I s) (hk : ∀ b t, I t → Q (k b t)) :
    Q (Machine.busRead s k) := by
  refine h.gate hs fun r hr => ?_
  cases hw : drawReadAnswer (s.proceed r).dev ((s.proceed r).drawAt 0) with
  | ok b => exact hk b _ (h.read _ hr (hw.trans_ne nofun))
  | fail => exact h.busFail (h.read _ hr (hw.trans_ne nofun))
  | silent => exact h.hangRead _ _ hr rfl hw

/-- The rule of the register commands. -/
theorem exec {i : Instr} {s t : State} (hi : isRpm i = true) (hs : I s) (he : Machine.exec i s = .next t) : Q t := by
  cases i with
  | select a =>
    obtain rfl := Host.Outcome.next.inj he
    exact h.busWrite (.inl rfl) s _ hs fun s hs => h.respond_event hs nofun
  | read a =>
    obtain rfl := Host.Outcome.next.inj he
    refine h.busWrite (.inl rfl) s _ hs fun s hs => ?_
    exact h.busRead hs fun b s hs => h.respond_event hs nofun
  | readPair a =>
    obtain rfl := Host.Outcome.next.inj he
    refine h.busWrite (.inl rfl) s _ hs fun s hs => ?_
    refine h.busRead hs fun hi s hs => ?_
    exact h.busRead (h.setHi s hi hs) fun lo s hs => h.respond_event hs nofun
  | write a v =>
    obtain rfl := Host.Outcome.next.inj he
    exact h.busWrite (.inr rfl) s _ hs fun s hs => h.respond_event hs nofun
  | step u d c => simp [isRpm] at hi
  | emit u => simp [isRpm] at hi

end RpmCarries

/-! ### Step sequencer commands (41_step_sequencer.md) -/

/-- An emission keeps what each of its two events keeps. -/
theorem Carries.emission {I Q : State → Prop} (h : Carries I Q) {u : UnitNo}
    (hw : ∀ s p, I s → I (s.afterPortWrite u p)) (hf : ∀ s, I s → I (s.afterPortFlush u)) : Keeps I Q (emission u) := by
  have write (p : Pattern) : Keeps I Q (portWrite u p) := fun _ _ hs hk => h.gate hs fun _ hr => hk _ (hw _ p hr)
  have flush : Keeps I Q (portFlush u) := fun _ _ hs hk => h.gate hs fun _ hr => hk _ (hf _ hr)
  exact fun s k hs hk => write (rom (s.idxOf u)) s _ hs fun t ht => flush t k ht hk

/-- `I` is carried through the events of unit `u`'s commands. -/
structure SeqCarries (u : UnitNo) (I Q : State → Prop) : Prop extends Carries I Q where
  emission : Keeps I Q (emission u)
  settle : ∀ s, I s → I (s.afterSettle u)
  setDuty : ∀ s x, I s → I (s.setPort u { s.portOf u with duty := x })

/-- `I` is carried through what a STEP does besides. An emission comes with the shift of the index before it: between
the two the port does not show the index. -/
structure StepCarries (u : UnitNo) (I Q : State → Prop) : Prop extends SeqCarries u I Q where
  shiftedEmission : ∀ d k, Keeps I Q fun s => Machine.emission u (s.moveIdx u d k)
  setRem : ∀ s n, I s → I (s.setRem n)
  checkDuty : ∀ s, I s → I (checkDuty u s)

namespace SeqCarries

variable {u : UnitNo} {I Q : State → Prop}

theorem settle_event (h : SeqCarries u I Q) : Keeps I Q (Machine.settle u) := fun _ _ hs hk =>
  h.gate hs fun _ hr => hk _ (h.settle _ hr)

/-- The rule of EMIT. -/
theorem execEmit (h : SeqCarries u I Q) {s t : State}
    (hend : ∀ s, I s → s.timer = 0 → Q (respondNow .ok 0 s)) (hu : s.hasUnit u = true) (hs : I s)
    (he : exec (.emit u) s = .next t) : Q t := by
  rw [execEmit_of_unit hu] at he
  obtain rfl := Host.Outcome.next.inj he
  refine h.emission s _ hs fun t ht => h.gate ht fun r hr => ?_
  split
  · exact hend _ hr rfl
  · exact hend _ (h.setDuty _ _ hr) rfl

end SeqCarries

namespace StepCarries

variable {u : UnitNo} {I Q : State → Prop} (h : StepCarries u I Q)
include h

/-- The main phase, by induction on the number of its rounds. -/
theorem stepMain (d : Direction) (q : Nat) : Keeps I Q (stepMain u d q) := by
  induction q with
  | zero => exact fun s k hs hk => hk s hs
  | succ q ih =>
    intro s k hs hk
    refine h.shiftedEmission d 3 s _ hs fun s hs => ?_
    refine h.settle_event s _ hs fun s hs => ?_
    exact ih _ k (h.setRem s _ hs) hk

theorem stepRemainder (hend : ∀ s, I s → s.timer = 0 → s.rem = 0 → Q (respondNow .ok 0 s)) (d : Direction)
    {s : State} (hs : I s) : Q (stepRemainder u d s) := by
  refine h.shiftedEmission d _ s _ hs fun s hs => ?_
  cases d with
  | cw =>
    refine h.settle_event s _ hs fun s hs => ?_
    exact h.gate (h.setRem s 0 hs) fun r hr => hend _ (h.setDuty _ _ hr) rfl rfl
  | ccw => exact h.gate (h.setRem s 0 hs) fun r hr => hend _ (h.setDuty _ _ hr) rfl rfl

/-- The rule of STEP. -/
theorem execStep (hend : ∀ s, I s → s.timer = 0 → s.rem = 0 → Q (respondNow .ok 0 s)) {d : Direction} {c : StepCount}
    {s t : State} (hu : s.hasUnit u = true) (hs : I s) (he : exec (.step u d c) s = .next t) : Q t := by
  rw [execStep_of_unit hu] at he
  obtain rfl := Host.Outcome.next.inj he
  exact h.stepMain d _ _ _ (h.setRem _ c (h.checkDuty s hs)) fun s hs => h.stepRemainder hend d hs

end StepCarries

end Sys2Proof.Machine
end

section
/-! SUPPORT. The invariant in the course of a command, and from one step to the next. -/

namespace Sys2Proof.Machine

/-! ### The units: index, patterns and places -/

/-- What BlockInvariant says of the units: driven ports show their index, absent units' places are untouched. -/
structure UnitsSound (s : State) : Prop where
  ports : PortsShowIndex s
  absent : ∀ u : UnitNo, s.hasUnit u = false → s.idxOf u = 0 ∧ (s.portOf u).driven = false

/-- `v`'s index and port are as they were, apart from the settle duty. -/
def UnitUnmoved (v : UnitNo) (s t : State) : Prop :=
  t.idx.get v = s.idx.get v ∧ ∃ x, t.ports.get v = { s.ports.get v with duty := x }

@[simp] theorem set_get_self {α : Type} (p : PerUnit α) (u : UnitNo) : p.set u (p.get u) = p := by
  refine perUnit_ext fun v => ?_
  by_cases hvu : v = u
  · rw [hvu, get_set_self]
  · exact get_set_ne p hvu _

namespace UnitsSound

/-- No unit has moved. -/
theorem of_unmoved {s t : State} (h : UnitsSound s) (hparams : t.params = s.params)
    (hunits : ∀ v, UnitUnmoved v s t) : UnitsSound t where
  ports v hv := by
    obtain ⟨hidx, x, hport⟩ := hunits v
    have hshow := h.ports v
    simp only [portOf_eq, idxOf_eq, hidx, hport] at hshow hv ⊢
    exact hshow hv
  absent v hv := by
    obtain ⟨hidx, x, hport⟩ := hunits v
    have habsent := h.absent v
    simp only [State.hasUnit, portOf_eq, idxOf_eq, hparams, hidx, hport] at habsent hv ⊢
    exact habsent hv

/-- One of the block's units now shows its index, and no other has moved. -/
theorem of_shown {s t : State} {u : UnitNo} (h : UnitsSound s) (hu : s.hasUnit u = true)
    (hparams : t.params = s.params) (hothers : ∀ v, v ≠ u → UnitUnmoved v s t)
    (hflushed : (t.ports.get u).flushed = rom (t.idx.get u))
    (hwritten : (t.ports.get u).written = rom (t.idx.get u)) : UnitsSound t where
  ports v hv := by
    by_cases hvu : v = u
    · subst hvu
      exact ⟨hflushed, hwritten⟩
    · obtain ⟨hidx, x, hport⟩ := hothers v hvu
      have hshow := h.ports v
      simp only [portOf_eq, idxOf_eq, hidx, hport] at hshow hv ⊢
      exact hshow hv
  absent v hv := by
    simp only [State.hasUnit, hparams] at hv hu
    have hvu : v ≠ u := by
      rintro rfl
      simp [hu] at hv
    obtain ⟨hidx, x, hport⟩ := hothers v hvu
    have habsent := h.absent v hv
    simp only [portOf_eq, idxOf_eq, hidx, hport] at habsent ⊢
    exact habsent

theorem elapse {s : State} (h : UnitsSound s) (d : Nat) : UnitsSound (s.elapse d) :=
  h.of_unmoved rfl fun _ => ⟨rfl, _, get_map _ _ _⟩

theorem setDuty {s : State} (h : UnitsSound s) (u : UnitNo) (x : Option Nat) :
    UnitsSound (s.setPort u { s.portOf u with duty := x }) :=
  h.of_unmoved rfl fun v => by
    refine ⟨rfl, ?_⟩
    by_cases hvu : v = u
    · subst hvu
      exact ⟨x, get_set_self _ _ _⟩
    · exact ⟨(s.ports.get v).duty, get_set_ne _ hvu _⟩

/-- An emission of one of the block's units at index `i` (R162). -/
theorem emitted {s : State} {u : UnitNo} (h : UnitsSound s) (hu : s.hasUnit u = true) (i : SeqIndex)
    (r r' : Option (Nat × BusAddr)) :
    UnitsSound (State.afterPortFlush u
      ((State.afterPortWrite u (rom i) ((s.setIdx u i).proceed r)).proceed r')) := by
  refine h.of_shown hu (by simp) (fun v hv => ⟨?_, ?_⟩) ?_ ?_
  · simp [get_set_ne _ hv]
  · exact ⟨_, by simp only [afterPortFlush_ports, proceed_ports, afterPortWrite_ports, get_map, get_set_ne _ hv]; rfl⟩
  · simp
  · simp

/-- After reset no port is known to be driven and every index is 0. -/
theorem resetBlock (a : BusAddr) (s : State) : UnitsSound (resetBlock a s) where
  ports u hu := by simp [portOf_eq] at hu
  absent u _ := ⟨get_zero_idx u, by simp [portOf_eq]⟩

end UnitsSound

/-! ### Reset -/

/-- Reset restores the invariant, in whatever state it finds the block's registers. -/
theorem resetBlock_blockInvariant {s : State} (hmem : s.dev.regs.wf = true) (hset : 0 < s.params.tSettle)
    (a : BusAddr) : BlockInvariant (resetBlock a s) where
  memory := hmem
  settlePositive := hset
  timerStopped := rfl
  noPendingReset := rfl
  remZero := rfl
  statusLegal := by simp
  errorDataZero _ := rfl
  outstandingIffExec := by simp
  outstandingLegal o ho := by simp at ho
  execIsRpm hexec := by simp at hexec
  ports := (UnitsSound.resetBlock a s).ports
  absentUnits := (UnitsSound.resetBlock a s).absent

/-! ### In the course of a command -/

/-- What holds in the course of a command between two of its events, the shift of an index counted to the emission that
follows it. The settle timer may run, `REM` may count and a reset may be on its way. -/
structure Running (s : State) : Prop where
  memory : s.dev.regs.wf = true
  settlePositive : 0 < s.params.tSettle
  inExec : s.phase = .exec
  noRequest : s.outstanding = none
  statusLegal : s.rspStatus ≠ 3
  errorDataZero : s.rspStatus ≠ 0 → s.rspData = 0
  units : UnitsSound s

namespace Running

theorem resetBlock {s : State} (h : Running s) (a : BusAddr) : BlockInvariant (resetBlock a s) :=
  resetBlock_blockInvariant h.memory h.settlePositive a

theorem proceed {s : State} (h : Running s) (r : Option (Nat × BusAddr)) : Running (s.proceed r) :=
  { h with units := (h.units.elapse s.timer).of_unmoved rfl fun _ => ⟨rfl, _, rfl⟩ }

/-- The response ends the command in a sound state (R231, R163). -/
theorem respondNow {s : State} (h : Running s) (htimer : s.timer = 0) (hrem : s.rem = 0) {st : Status} {d : Half}
    (hd : st ≠ .ok → d = 0) : BlockInvariant (respondNow st d s) where
  memory := h.memory
  settlePositive := h.settlePositive
  timerStopped := htimer
  noPendingReset := rfl
  remZero := hrem
  statusLegal := status_code_ne_three st
  errorDataZero hst := hd fun hok => hst (by simp [hok, Status.code])
  outstandingIffExec := by simp [h.noRequest]
  outstandingLegal o ho := by simp [h.noRequest] at ho
  execIsRpm hexec := by simp at hexec
  ports := h.units.ports
  absentUnits := h.units.absent

end Running

/-- An ILLEGAL word (R107), with or without a reset before its response. -/
theorem Running.raiseIllegal {s : State} (h : Running s) (hrem : s.rem = 0) : BlockInvariant (raiseIllegal s) :=
  respond_elim (fun a _ => h.resetBlock a) ((h.proceed none).respondNow rfl hrem fun _ => rfl)

/-! ### Register commands -/

/-- In the course of a register command: `REM` is 0 and `CMD` spells the command. -/
structure RunningRpm (s : State) : Prop extends Running s where
  remZero : s.rem = 0
  isRpm : ∃ i, decode s.params.nSeq s.cmd = .ok i ∧ isRpm i = true

/-- A transaction that never answers leaves its request outstanding, a legal one. -/
theorem RunningRpm.hang {s : State} (h : RunningRpm s) (htimer : s.timer = 0) {o : Outstanding}
    (ho : requestLegal s.devAddr o.req = true) : BlockInvariant (hang o s) where
  memory := h.memory
  settlePositive := h.settlePositive
  timerStopped := htimer
  noPendingReset := rfl
  remZero := h.remZero
  statusLegal := h.statusLegal
  errorDataZero := h.errorDataZero
  outstandingIffExec := by simp [h.inExec]
  outstandingLegal o' ho' := by
    obtain rfl := Option.some.inj ho'
    exact ho
  execIsRpm _ := h.isRpm
  ports := h.units.ports
  absentUnits := h.units.absent

theorem rpmCarries_blockInvariant : RpmCarries RunningRpm BlockInvariant where
  due _ a h _ := h.resetBlock a
  nearer _ _ _ h _ := { h with toRunning := h.proceed _ }
  quiet _ h _ := { h with toRunning := h.proceed _ }
  write s bytes h _ := { h with memory := drawDeviceAfterWrite_wf bytes _ h.memory, units := { h.units with } }
  read s h _ := { h with memory := drawDeviceAfterRead_wf _ h.memory, units := { h.units with } }
  setHi _ _ h := { h with units := { h.units with } }
  respond _ _ _ h htimer hd := h.respondNow htimer h.remZero hd
  hangWrite s bytes taken h htimer hb _ := by
    have hkeep : RunningRpm (s.afterWrite bytes) :=
      { h with memory := drawDeviceAfterWrite_wf bytes _ h.memory, units := { h.units with } }
    exact hkeep.hang htimer (by simpa [requestLegal] using hb)
  hangRead s taken h htimer _ := by
    have hkeep : RunningRpm s.afterRead :=
      { h with memory := drawDeviceAfterRead_wf _ h.memory, units := { h.units with } }
    exact hkeep.hang htimer (by simp [requestLegal])

/-! ### Step sequencer commands -/

/-- In the course of a STEP or EMIT of a unit the block has, `R` being known of `REM`. -/
structure RunningSeq (u : UnitNo) (R : StepCount → Prop) (s : State) : Prop extends Running s where
  hasUnit : s.hasUnit u = true
  rem : R s.rem

namespace RunningSeq

variable {u : UnitNo} {R : StepCount → Prop}

theorem carries : Carries (RunningSeq u R) BlockInvariant where
  due _ a h _ := h.resetBlock a
  nearer _ _ _ h _ := { h with toRunning := h.proceed _ }
  quiet _ h _ := { h with toRunning := h.proceed _ }

/-- An emission at whatever index `i` the unit has been set to: a reset may cut it before either of its events, and
after both the port shows `i` (R162, R167). -/
theorem emission_setIdx (i : SeqIndex) :
    Keeps (RunningSeq u R) BlockInvariant fun s => emission u (s.setIdx u i) := by
  intro s k h hk
  refine portWrite_elim (fun a _ => ?_) fun r => portFlush_elim (fun a _ => ?_) fun r' => hk _ ?_
  · exact resetBlock_blockInvariant (by exact h.memory) (by exact h.settlePositive) a
  · exact resetBlock_blockInvariant (by exact h.memory) (by exact h.settlePositive) a
  · rw [idxOf_eq, setIdx_idx, get_set_self]
    exact {
      memory := by simpa using h.memory
      settlePositive := by simpa using h.settlePositive
      inExec := by simpa using h.inExec
      noRequest := by simpa using h.noRequest
      statusLegal := by simpa using h.statusLegal
      errorDataZero := by simpa using h.errorDataZero
      units := h.units.emitted h.hasUnit i r r'
      hasUnit := by simpa [State.hasUnit] using h.hasUnit
      rem := by simpa using h.rem }

theorem emission_carries : Keeps (RunningSeq u R) BlockInvariant (emission u) := by
  intro s k h hk
  have hstay : s.setIdx u (s.idxOf u) = s := by simp [State.setIdx, idxOf_eq]
  rw [← hstay]
  exact emission_setIdx (s.idxOf u) s k h hk

theorem seqCarries : SeqCarries u (RunningSeq u R) BlockInvariant where
  toCarries := carries
  emission := emission_carries
  settle _ h := { h with units := { h.units with } }
  setDuty _ x h := { h with units := h.units.setDuty u x }

theorem stepCarries : StepCarries u (RunningSeq u fun _ => True) BlockInvariant where
  toSeqCarries := seqCarries
  shiftedEmission d k s := emission_setIdx (shiftIndex d (s.idxOf u) k) s
  setRem _ _ h := { h with units := { h.units with }, rem := trivial }
  checkDuty s h := by
    unfold checkDuty
    split
    · exact { h with units := { h.units with } }
    · exact h

end RunningSeq

/-! ### From one step to the next -/

/-- The commands' part: an accepted word runs to a sound state. -/
theorem runAccepted_blockInvariant {s t : State} (h : Running s) (hrem : s.rem = 0) (hrun : runAccepted s = .next t) :
    BlockInvariant t := by
  rcases runAccepted_cases hrun with ⟨i, hdec, hi, he⟩ | ⟨u, d, c, _, hu, he⟩ | ⟨u, hu, he⟩ | rfl
  · exact rpmCarries_blockInvariant.exec hi { h with remZero := hrem, isRpm := ⟨i, hdec, hi⟩ } he
  · exact RunningSeq.stepCarries.execStep (fun _ h ht hr => h.respondNow ht hr nofun) hu
      { h with hasUnit := hu, rem := trivial } he
  · exact (RunningSeq.seqCarries (R := (· = 0))).execEmit (fun _ h ht => h.respondNow ht h.rem nofun) hu
      { h with hasUnit := hu, rem := hrem } he
  · exact h.raiseIllegal hrem

namespace BlockInvariant

/-- Time and the sensor keep the invariant. -/
theorem arrive {s : State} (h : BlockInvariant s) : BlockInvariant s.arrive :=
  have hunits : UnitsSound s.arrive :=
    (UnitsSound.elapse ⟨h.ports, h.absentUnits⟩ s.inputs.wait).of_unmoved rfl fun _ => ⟨rfl, _, rfl⟩
  { h with memory := update_wf _ h.memory, ports := hunits.ports, absentUnits := hunits.absent }

theorem takeResponse {s : State} (h : BlockInvariant s) (hresp : s.phase = .resp) : BlockInvariant s.takeResponse where
  memory := h.memory
  settlePositive := h.settlePositive
  timerStopped := h.timerStopped
  noPendingReset := h.noPendingReset
  remZero := h.remZero
  statusLegal := h.statusLegal
  errorDataZero := h.errorDataZero
  outstandingIffExec := by
    have hno := h.outstandingIffExec
    simp only [hresp, reduceCtorEq] at hno
    simp [hno]
  outstandingLegal := h.outstandingLegal
  execIsRpm hexec := by simp at hexec
  ports := h.ports
  absentUnits := h.absentUnits

/-- A block in IDLE that accepts a word is running, with no request outstanding. -/
theorem accept {s : State} (h : BlockInvariant s) (hidle : s.phase = .idle) (p : Inputs) : Running (s.accept p) where
  memory := h.memory
  settlePositive := h.settlePositive
  inExec := rfl
  noRequest := by
    have hno := h.outstandingIffExec
    simp only [hidle, reduceCtorEq] at hno
    simpa using hno
  statusLegal := h.statusLegal
  errorDataZero := h.errorDataZero
  units := { ports := h.ports, absent := h.absentUnits }

end BlockInvariant

/-- Settles O49: by the branches of a step; the accepted word is carried event by event. -/
theorem stepKeepsInvariant : Obligations.StepKeepsInvariant := by
  intro s t h hstep
  rcases step_cases hstep with ⟨_, rfl⟩ | ⟨_, hidle, _, hrun⟩ | ⟨_, hresp, _, rfl⟩ | ⟨_, _, rfl⟩
  · exact resetBlock_blockInvariant h.arrive.memory h.arrive.settlePositive _
  · exact runAccepted_blockInvariant (h.arrive.accept hidle _) h.arrive.remZero hrun
  · exact h.arrive.takeResponse hresp
  · exact h.arrive

/-- No port is driven at power-on. -/
theorem reset_port_driven (u : UnitNo) : (State.reset.portOf u).driven = false := by
  rcases unitNo_cases u with rfl | rfl | rfl | rfl <;> rfl

/-- Settles O48, field by field. -/
theorem invariantAtReset : Obligations.InvariantAtReset where
  memory := reset_memory_wf
  settlePositive := Nat.succ_pos _
  timerStopped := rfl
  noPendingReset := rfl
  remZero := rfl
  statusLegal := by decide
  errorDataZero _ := rfl
  outstandingIffExec := by decide
  outstandingLegal o ho := nomatch ho
  execIsRpm hexec := nomatch hexec
  ports u hu := by simp [reset_port_driven] at hu
  absentUnits u _ := ⟨get_zero_idx u, reset_port_driven u⟩

end Sys2Proof.Machine
end

section
/-! SUPPORT. The events of a command that no reset disturbs, and the response handshake. -/

namespace Sys2Proof.Machine

/-- The history `events` is `old` and then only events with `p`. -/
def Grown (p : Event → Prop) (old events : List Event) : Prop := ∃ es, events = old ++ es ∧ ∀ e ∈ es, p e

theorem Grown.refl (p : Event → Prop) (old : List Event) : Grown p old old := ⟨[], by simp, nofun⟩

/-- One more event with `p`. -/
theorem Grown.snoc {p : Event → Prop} {old events : List Event} {e : Event} (h : Grown p old events) (he : p e) :
    Grown p old (events ++ [e]) := by
  obtain ⟨es, rfl, hall⟩ := h
  refine ⟨es ++ [e], List.append_assoc .., fun e' he' => ?_⟩
  rcases List.mem_append.1 he' with hmem | hlast
  · exact hall e' hmem
  · rwa [List.mem_singleton.1 hlast]

/-- No reset is to come, and since the history was `old` only events with `p` have joined it. -/
def Issued (p : Event → Prop) (old : List Event) (t : State) : Prop :=
  t.pendingReset = none ∧ Grown p old t.events

namespace Issued

variable {p : Event → Prop} {old : List Event}

theorem start {s : State} (h : s.pendingReset = none) : Issued p s.events s := ⟨h, .refl p _⟩

theorem carries {Q : State → Prop} : Carries (Issued p old) Q :=
  .of_no_reset (fun _ h => h.1) fun _ h => ⟨rfl, h.2⟩

/-- A STEP issues only events of its unit before the response. -/
theorem stepCarries {u : UnitNo} {Q : State → Prop} (hwrite : ∀ x, p (.portWrite u x)) (hflush : p (.portFlush u))
    (hsettle : p (.settle u)) : StepCarries u (Issued p old) Q :=
  have hemission : Keeps (Issued p old) Q (emission u) :=
    carries.emission (fun _ x h => ⟨h.1, h.2.snoc (hwrite x)⟩) fun _ h => ⟨h.1, h.2.snoc hflush⟩
  { toCarries := carries
    emission := hemission
    settle := fun _ h => ⟨h.1, h.2.snoc hsettle⟩
    setDuty := fun _ _ h => h
    shiftedEmission := fun _ _ s k h hk => hemission (s.moveIdx u _ _) k h hk
    setRem := fun _ _ h => h
    checkDuty := fun s h => by simpa [Issued] using h }

end Issued

/-! ### Other units' ports (10_state.md R46) -/

/-- What a STEP or EMIT of unit `u` adds to the history, its response included, leaves every other unit's signals at 0. -/
theorem seq_grown_quietPins {u v : UnitNo} (hv : v ≠ u) {i : Instr} (hi : i = .emit u ∨ ∃ d c, i = .step u d c)
    {s t : State} (hs : s.pendingReset = none) (he : exec i s = .next t) :
    Grown (fun e => e.portPins v = quietPins) s.events t.events := by
  have hcarries : StepCarries u (Issued (fun e => e.portPins v = quietPins) s.events)
      fun t => Grown (fun e => e.portPins v = quietPins) s.events t.events :=
    Issued.stepCarries (by simp [Event.portPins, quietPins, hv.symm]) (by simp [Event.portPins, quietPins, hv.symm]) rfl
  have hillegal := hcarries.gate (k := respondNow .illegal 0) (.start hs) fun _ h => h.2.snoc rfl
  cases hu : s.hasUnit u with
  | false =>
    rcases hi with rfl | ⟨d, c, rfl⟩
    · obtain rfl := Host.Outcome.next.inj ((execEmit_of_no_unit hu).symm.trans he)
      exact hillegal
    · obtain rfl := Host.Outcome.next.inj ((execStep_of_no_unit hu d c).symm.trans he)
      exact hillegal
  | true =>
    rcases hi with rfl | ⟨d, c, rfl⟩
    · exact hcarries.execEmit (fun _ h _ => h.2.snoc rfl) hu (.start hs) he
    · exact hcarries.execStep (fun _ h _ _ => h.2.snoc rfl) hu (.start hs) he

/-- Settles O37, by carrying "only quiet events for unit `v`" through the command. -/
theorem otherPortsStayQuiet : Obligations.OtherPortsStayQuiet := by
  refine ⟨fun u v d c s t hv hs he => ?_, fun _ _ => rfl⟩
  rcases he with he | he
  · exact seq_grown_quietPins hv (.inr ⟨d, c, rfl⟩) hs.1 he
  · exact seq_grown_quietPins hv (.inl rfl) hs.1 he

/-! ### One response for each accepted command (10_state.md R43, 60_exceptions.md R234) -/

/-- The event is neither a response nor an unanswered transaction. -/
def Answered (e : Event) : Prop := isRespond e = false ∧ isUnanswered e = false

/-- The command has responded once, at its end, every transaction answered; or its last transaction is unanswered, the
block is stuck on it and has not responded. -/
def RespondedOnceOrStuck (old : List Event) (t : State) : Prop :=
  ∃ es : List Event, (∀ e ∈ es, isRespond e = false) ∧
    ((t.phase = .resp ∧ (∀ e ∈ es, isUnanswered e = false) ∧
        ∃ st d, t.events = old ++ es ++ [.respond st d] ∧ t.rspStatus = st.code ∧ t.rspData = d) ∨
      (Stuck t ∧ t.events = old ++ es ∧ ∃ e, es.getLast? = some e ∧ isUnanswered e = true))

theorem respondNow_respondedOnce {old : List Event} {s : State} (h : Issued Answered old s) (st : Status) (d : Half) :
    RespondedOnceOrStuck old (respondNow st d s) := by
  obtain ⟨_, es, hes, hall⟩ := h
  refine ⟨es, fun e he => (hall e he).1, .inl ⟨rfl, fun e he => (hall e he).2, st, d, ?_, rfl, rfl⟩⟩
  rw [respondNow_events, hes]

/-- The unanswered transaction `e` has joined the history and the block waits on it. -/
theorem hang_stuck {old : List Event} {s t : State} {e : Event} (h : Issued Answered old s) (ht : t.phase = .exec)
    (he : t.events = s.events ++ [e]) (hr : isRespond e = false) (hun : isUnanswered e = true) (o : Outstanding) :
    RespondedOnceOrStuck old (hang o t) := by
  obtain ⟨_, es, hes, hall⟩ := h
  refine ⟨es ++ [e], fun e' he' => ?_, .inr ⟨⟨ht, rfl⟩, ?_, e, List.getLast?_concat, hun⟩⟩
  · rcases List.mem_append.1 he' with hmem | hlast
    · exact (hall e' hmem).1
    · rwa [List.mem_singleton.1 hlast]
  · rw [hang_events, he, hes, List.append_assoc]

theorem rpmCarries_respondedOnce (old : List Event) :
    RpmCarries (fun s => Issued Answered old s ∧ s.phase = .exec) (RespondedOnceOrStuck old) where
  toCarries := .of_no_reset (fun _ h => h.1.1) fun _ h => ⟨⟨rfl, h.1.2⟩, h.2⟩
  write s bytes h hans := by
    refine ⟨⟨h.1.1, h.1.2.snoc ⟨rfl, ?_⟩⟩, h.2⟩
    cases hd : drawWriteAnswer (s.drawAt 0) with
    | ok => rfl
    | fail => rfl
    | silent => exact absurd hd hans
  read s h hans := by
    refine ⟨⟨h.1.1, h.1.2.snoc ⟨rfl, ?_⟩⟩, h.2⟩
    cases hd : drawReadAnswer s.dev (s.drawAt 0) with
    | ok b => rfl
    | fail => rfl
    | silent => exact absurd hd hans
  setHi _ _ h := h
  respond _ st d h _ _ := respondNow_respondedOnce h.1 st d
  hangWrite s bytes _ h _ _ hd :=
    hang_stuck h.1 (t := s.afterWrite bytes) h.2 (afterWrite_events bytes s) rfl (by rw [hd]; rfl) _
  hangRead s _ h _ hd :=
    hang_stuck h.1 (t := s.afterRead) h.2 (afterRead_events s) rfl (by rw [hd]; rfl) _

/-- An accepted word, with no reset to come, responds once or leaves the block stuck. -/
theorem runAccepted_respondedOnce {s t : State} (hs : s.pendingReset = none) (hexec : s.phase = .exec)
    (hrun : runAccepted s = .next t) : RespondedOnceOrStuck s.events t := by
  have hseq (u : UnitNo) : StepCarries u (Issued Answered s.events) (RespondedOnceOrStuck s.events) :=
    Issued.stepCarries (fun _ => ⟨rfl, rfl⟩) ⟨rfl, rfl⟩ ⟨rfl, rfl⟩
  rcases runAccepted_cases hrun with ⟨i, _, hi, he⟩ | ⟨u, d, c, _, hu, he⟩ | ⟨u, hu, he⟩ | rfl
  · exact (rpmCarries_respondedOnce s.events).exec hi ⟨.start hs, hexec⟩ he
  · exact (hseq u).execStep (fun _ h _ _ => respondNow_respondedOnce h _ _) hu (.start hs) he
  · exact (hseq u).execEmit (fun _ h _ => respondNow_respondedOnce h _ _) hu (.start hs) he
  · exact (rpmCarries_respondedOnce s.events).illegal ⟨.start hs, hexec⟩

/-- Settles O11: the handshake by the branches of a step, the one response by carrying "only answered events so far"
through the command. -/
theorem oneResponsePerCommand : Obligations.OneResponsePerCommand := by
  refine ⟨fun s rst => by simp [rspValid], fun s hr hp hv => step_of_response_taken hr hp hv,
    fun s hr hp hv => step_of_response_waiting hr hp hv, fun s t hr hp hv hstep => ?_⟩
  rw [step_of_presented (by simp [hr]) hp hv] at hstep
  exact runAccepted_respondedOnce (s := s.arrive.accept s.inputs) (announcedReset_of_low hr) rfl hstep

end Sys2Proof.Machine
end

section
/-! SUPPORT. What only reset and STEP write: `DEV_ADDR`, the parameters and the indices. -/

namespace Sys2Proof.Machine

/-! ### DEV_ADDR and the parameters (10_state.md R31, R38) -/

/-- Since `s`, the parameters and `DEV_ADDR` are unchanged, and a reset to come is the one of `s`'s inputs. -/
def AddressKept (s t : State) : Prop :=
  t.params = s.params ∧ t.devAddr = s.devAddr ∧
    ∀ n a, t.pendingReset = some (n, a) → s.inputs.rst ≠ .low ∧ s.inputs.cfgDevAddr = a

/-- What O51 says of the step from `s` to `t`. -/
def AddressFromReset (s t : State) : Prop :=
  t.params = s.params ∧ (t.devAddr = s.devAddr ∨ (s.inputs.rst ≠ .low ∧ t.devAddr = s.inputs.cfgDevAddr))

theorem AddressKept.kept {s t : State} (h : AddressKept s t) : AddressFromReset s t := ⟨h.1, .inl h.2.1⟩

theorem addressKept_carries (s : State) : Carries (AddressKept s) (AddressFromReset s) where
  due _ a h hdue :=
    have ⟨hlow, haddr⟩ := h.2.2 0 a hdue
    ⟨h.1, .inr ⟨hlow, haddr.symm⟩⟩
  nearer _ n a h hp := by
    refine ⟨h.1, h.2.1, fun n' a' hr => ?_⟩
    obtain ⟨rfl, rfl⟩ := Prod.mk.inj (Option.some.inj hr)
    exact h.2.2 _ _ hp
  quiet _ h _ := ⟨h.1, h.2.1, nofun⟩

theorem rpmCarries_addressKept (s : State) : RpmCarries (AddressKept s) (AddressFromReset s) where
  toCarries := addressKept_carries s
  write _ _ h _ := h
  read _ h _ := h
  setHi _ _ h := h
  respond _ _ _ h _ _ := h.kept
  hangWrite _ _ _ h _ _ _ := by simpa [AddressFromReset] using h.kept
  hangRead _ _ h _ _ := by simpa [AddressFromReset] using h.kept

theorem stepCarries_addressKept (s : State) (u : UnitNo) : StepCarries u (AddressKept s) (AddressFromReset s) :=
  have hemission : Keeps (AddressKept s) (AddressFromReset s) (emission u) :=
    (addressKept_carries s).emission (fun _ _ h => h) fun _ h => h
  { toCarries := addressKept_carries s
    emission := hemission
    settle := fun _ h => h
    setDuty := fun _ _ h => h
    shiftedEmission := fun _ _ r k h hk => hemission (r.moveIdx u _ _) k h hk
    setRem := fun _ _ h => h
    checkDuty := fun r h => by simpa [AddressKept] using h }

theorem runAccepted_addressFromReset {s r t : State} (h : AddressKept s r) (hrun : runAccepted r = .next t) :
    AddressFromReset s t := by
  rcases runAccepted_cases hrun with ⟨i, _, hi, he⟩ | ⟨u, d, c, _, hu, he⟩ | ⟨u, hu, he⟩ | rfl
  · exact (rpmCarries_addressKept s).exec hi h he
  · exact (stepCarries_addressKept s u).execStep (fun _ h _ _ => h.kept) hu h he
  · exact (stepCarries_addressKept s u).execEmit (fun _ h _ => h.kept) hu h he
  · exact (rpmCarries_addressKept s).illegal h

/-- Settles O51, by the branches of a step. -/
theorem addressAndParametersFixed : Obligations.AddressAndParametersFixed := by
  intro s t hstep
  rcases step_cases hstep with ⟨hr, rfl⟩ | ⟨_, _, _, hrun⟩ | ⟨_, _, _, rfl⟩ | ⟨_, _, rfl⟩
  · exact ⟨rfl, .inr ⟨by simp [hr], rfl⟩⟩
  · refine runAccepted_addressFromReset (r := s.arrive.accept s.inputs) ⟨rfl, rfl, fun n a hp => ?_⟩ hrun
    obtain ⟨hrises, haddr⟩ := announcedReset_eq_some.1 hp
    exact ⟨by simp [hrises], haddr⟩
  · exact ⟨rfl, .inl rfl⟩
  · exact ⟨rfl, .inl rfl⟩

/-! ### The indices (10_state.md R32) -/

/-- No reset is to come and the indices are `idx`. -/
def IndicesKept (idx : PerUnit SeqIndex) (t : State) : Prop := t.pendingReset = none ∧ t.idx = idx

theorem indicesKept_carries (idx : PerUnit SeqIndex) : Carries (IndicesKept idx) (fun t => t.idx = idx) :=
  .of_no_reset (fun _ h => h.1) fun _ h => ⟨rfl, h.2⟩

theorem rpmCarries_indicesKept (idx : PerUnit SeqIndex) : RpmCarries (IndicesKept idx) (fun t => t.idx = idx) where
  toCarries := indicesKept_carries idx
  write _ _ h _ := h
  read _ h _ := h
  setHi _ _ h := h
  respond _ _ _ h _ _ := h.2
  hangWrite _ _ _ h _ _ _ := by simpa using h.2
  hangRead _ _ h _ _ := by simpa using h.2

/-- An EMIT moves no index: what a STEP has beyond it is the shift. -/
theorem seqCarries_indicesKept (u : UnitNo) (idx : PerUnit SeqIndex) :
    SeqCarries u (IndicesKept idx) (fun t => t.idx = idx) where
  toCarries := indicesKept_carries idx
  emission := (indicesKept_carries idx).emission (fun _ _ h => h) fun _ h => h
  settle _ h := h
  setDuty _ _ h := h

/-- Settles O52: nothing is accepted, or the word is carried as one that spells no STEP. -/
theorem onlyStepAndResetMoveAnIndex : Obligations.OnlyStepAndResetMoveAnIndex := by
  intro s t hstep hlow hno
  rcases step_cases hstep with ⟨hr, _⟩ | ⟨_, hidle, hv, hrun⟩ | ⟨_, _, _, rfl⟩ | ⟨_, _, rfl⟩
  · simp [hlow] at hr
  · have hstart : IndicesKept s.idx (s.arrive.accept s.inputs) := ⟨announcedReset_of_low hlow, rfl⟩
    rcases runAccepted_cases hrun with ⟨i, _, hi, he⟩ | ⟨u, d, c, hdec, _⟩ | ⟨u, hu, he⟩ | rfl
    · exact (rpmCarries_indicesKept s.idx).exec hi hstart he
    · rcases hno with hphase | hquiet | hnostep
      · exact absurd hidle hphase
      · simp [hv] at hquiet
      · exact absurd hdec (hnostep u d c)
    · exact (seqCarries_indicesKept u s.idx).execEmit (fun _ h _ => h.2) hu hstart he
    · exact (rpmCarries_indicesKept s.idx).illegal hstart
  · rfl
  · rfl

end Sys2Proof.Machine
end

section
/-! SUPPORT. Acceptance of a command, waiting, and the fixed values. -/

namespace Sys2Proof.Machine

/-! ### Acceptance (10_state.md R35, R42) -/

/-- Settles O7. -/
theorem stepRunsPresentedCommand : Obligations.StepRunsPresentedCommand := by
  intro s i hp hr hv hdec
  rw [step_of_presented hr hp hv]
  exact runAccepted_of_legal hdec

/-- A placed word is accepted with nothing else arriving. -/
theorem withFetchWord_accept (s : State) (nbits w : Nat) :
    (s.withFetchWord nbits w).arrive.accept (s.withFetchWord nbits w).inputs =
      { s with phase := .exec, outstanding := none, cmd := BitVec.ofNat 32 (w % 2 ^ nbits), pendingReset := none } := by
  simp [State.withFetchWord, State.arrive, State.accept, State.inputs, State.elapse, announcedReset, Device.update]

/-- Settles O8, as a step that accepts the placed word. -/
theorem placedWordRunsNext : Obligations.PlacedWordRunsNext := by
  intro s nbits w i hdec
  have haccept := stepRunsPresentedCommand (s.withFetchWord nbits w) i rfl nofun rfl hdec
  rwa [withFetchWord_accept] at haccept

/-- Settles O10: the ready signal, acceptance in IDLE, and none elsewhere. -/
theorem commandAcceptedOnlyWhenReady : Obligations.CommandAcceptedOnlyWhenReady := by
  refine fun s => ⟨fun rst => by simp [cmdReady], fun hr hp hv => ?_, fun hr hp => ?_⟩
  · exact ⟨s.arrive.accept s.inputs, rfl, rfl, rfl, step_of_presented hr hp hv⟩
  · rcases step_of_not_idle hr hp with h | h
    · exact ⟨_, h, rfl, rfl⟩
    · exact ⟨_, h, rfl, rfl⟩

/-- Settles O12. -/
theorem idleBlockWaits : Obligations.IdleBlockWaits := fun _ hr hp hv => step_of_nothing_presented hr hp hv

/-! ### Fixed values (10_state.md R33, R34, R41, R47) -/

/-- Circular neighbours in the ROM differ in exactly one line (R34). -/
theorem rom_neighbours_differ_in_one_line (k : SeqIndex) :
    ((List.range 4).filter fun i => portLine (rom k) i != portLine (rom (k + 1)) i).length = 1 := by
  revert k
  decide

/-- Settles O39. -/
theorem patternRom : Obligations.PatternRom := ⟨by decide, rom_neighbours_differ_in_one_line⟩

/-- Settles O42, from the fields of `State.reset`. -/
theorem resetValues : Obligations.ResetValues :=
  ⟨get_zero_idx, rfl, rfl, rfl, rfl, rfl, rfl, rfl, rfl, rfl, reset_memory_wf, rfl, rfl, rfl, rfl, rfl⟩

/-- Settles O53, by the shape of the request. -/
theorem requestSignals : Obligations.RequestSignals := fun _ _ _ =>
  ⟨rfl, rfl, rfl, rfl, rfl, rfl, rfl, rfl, rfl, rfl, rfl⟩

end Sys2Proof.Machine
end

section
/-! SUPPORT. The register commands that no reset disturbs, one transaction at a time: where a command stands when its
transactions so far have been answered (40_register_protocol.md R131 to R134). -/

namespace Sys2Proof.Machine

@[simp] theorem drawAt_respondNow (st : Status) (d : Half) (s : State) (n : Nat) :
    (respondNow st d s).drawAt n = s.drawAt n := rfl

namespace Undisturbed

theorem afterWrite {s : State} (h : Undisturbed s) (bytes : List Byte) : Undisturbed (s.afterWrite bytes) := h
theorem afterRead {s : State} (h : Undisturbed s) : Undisturbed s.afterRead := h
theorem setHi {s : State} (h : Undisturbed s) (b : Byte) : Undisturbed (s.setHi b) := h

/-- A response leaves no reset to come. -/
theorem respondNow {s : State} (h : Undisturbed s) (st : Status) (d : Half) : Undisturbed (respondNow st d s) :=
  ⟨rfl, h.2⟩

theorem respond {s : State} (h : Undisturbed s) (st : Status) (d : Half) : respond st d s = Machine.respondNow st d s :=
  respond_run h.1 h.2 st d

end Undisturbed

/-- Every register command begins with the write transaction of its first bytes. -/
theorem exec_of_firstBytes {i : Instr} {bytes : List Byte} (h : firstBytes i = some bytes) :
    ∃ k, ∀ s, exec i s = .next (busWrite bytes s k) := by
  cases i with
  | select a => obtain rfl := Option.some.inj h; exact ⟨_, fun _ => rfl⟩
  | read a => obtain rfl := Option.some.inj h; exact ⟨_, fun _ => rfl⟩
  | readPair a => obtain rfl := Option.some.inj h; exact ⟨_, fun _ => rfl⟩
  | write a v => obtain rfl := Option.some.inj h; exact ⟨_, fun _ => rfl⟩
  | step u d c => simp [firstBytes] at h
  | emit u => simp [firstBytes] at h

/-! ### After the first write -/

section
variable {s : State} (hs : Undisturbed s) (hw : drawWriteAnswer (s.drawAt 0) = .ok)
include hs hw

theorem exec_select_answered (a : Byte) : exec (.select a) s = .next (respondNow .ok 0 (s.afterWrite [a])) := by
  rw [exec, execSelect, busWrite_ok hs.1 hs.2 _ hw, (hs.afterWrite [a]).respond]

theorem exec_write_answered (a v : Byte) :
    exec (.write a v) s = .next (respondNow .ok 0 (s.afterWrite [a, v])) := by
  rw [exec, execWrite, busWrite_ok hs.1 hs.2 _ hw, (hs.afterWrite [a, v]).respond]

/-- READ and READPAIR go on alike, with a read. -/
theorem exec_reading_selected {a : Byte} {i : Instr} (hi : i = .read a ∨ i = .readPair a) :
    ∃ k, exec i s = .next (busRead (s.afterWrite [a]) k) := by
  rcases hi with rfl | rfl
  · exact ⟨_, by rw [exec, execRead, busWrite_ok hs.1 hs.2 _ hw]⟩
  · exact ⟨_, by rw [exec, execReadPair, busWrite_ok hs.1 hs.2 _ hw]⟩

/-! ### After the first read -/

theorem exec_read_answered {a b : Byte}
    (hr : drawReadAnswer (drawDeviceAfterWrite s.dev [a] (s.drawAt 0)) (s.drawAt 1) = .ok b) :
    exec (.read a) s = .next (respondNow .ok (zext16 b) (s.afterWrite [a]).afterRead) := by
  have hw1 := hs.afterWrite [a]
  rw [exec, execRead, busWrite_ok hs.1 hs.2 _ hw, busRead_ok hw1.1 hw1.2 (by simpa using hr), hw1.afterRead.respond]

/-- READPAIR goes on with its second read, the high byte in `HI`. -/
theorem exec_readPair_high_read {a hi : Byte}
    (hr : drawReadAnswer (drawDeviceAfterWrite s.dev [a] (s.drawAt 0)) (s.drawAt 1) = .ok hi) :
    exec (.readPair a) s = .next (busRead ((s.afterWrite [a]).afterRead.setHi hi) fun lo t =>
      respond .ok (pairOf hi lo) t) := by
  have hw1 := hs.afterWrite [a]
  rw [exec, execReadPair, busWrite_ok hs.1 hs.2 _ hw, busRead_ok hw1.1 hw1.2 (by simpa using hr)]

/-! ### After the second read -/

theorem exec_readPair_answered {a hi lo : Byte}
    (hr : drawReadAnswer (drawDeviceAfterWrite s.dev [a] (s.drawAt 0)) (s.drawAt 1) = .ok hi)
    (hr2 : drawReadAnswer (drawDeviceAfterRead (drawDeviceAfterWrite s.dev [a] (s.drawAt 0)) (s.drawAt 1))
      (s.drawAt 2) = .ok lo) :
    exec (.readPair a) s =
      .next (respondNow .ok (pairOf hi lo) ((s.afterWrite [a]).afterRead.setHi hi).afterRead) := by
  have hw2 := (hs.afterWrite [a]).afterRead.setHi hi
  rw [exec_readPair_high_read hs hw hr, busRead_ok hw2.1 hw2.2 (by simpa using hr2), hw2.afterRead.respond]

end

end Sys2Proof.Machine
end

section
/-! SUPPORT. A transaction that is never answered, and the stuck block (20_memory.md R73, 60_exceptions.md R234). -/

namespace Sys2Proof.Machine

theorem stuck_hang {s : State} (h : s.phase = .exec) (o : Outstanding) : Stuck (hang o s) := ⟨h, rfl⟩

/-- The request stands on the bus until the transport takes it (10_state.md R44). -/
theorem btReqValid_hang (o : Outstanding) (s : State) : btReqValid false (hang o s) = !o.taken := rfl

/-- From `s` the block has come to wait on `req`, which the draw `w` leaves unanswered; only the event `e` has been
issued, and no response. -/
structure WaitsOn (req : BusRequest) (e : Event) (w : Draw) (s t : State) : Prop where
  stuck : Stuck t
  outstanding : t.outstanding = some { req := req, taken := drawTaken w }
  reqValid : btReqValid false t = !drawTaken w
  events : t.events = s.events ++ [e]
  hi : t.hi = s.hi
  rspStatus : t.rspStatus = s.rspStatus
  rspData : t.rspData = s.rspData
  idx : t.idx = s.idx
  ports : t.ports = s.ports

/-- What follows a write does not happen where the write is never answered. -/
theorem busWrite_waitsOn {s : State} (hs : Undisturbed s) (hexec : s.phase = .exec)
    (hsilent : drawWriteAnswer (s.drawAt 0) = .silent) (bytes : List Byte) (k : State → State) :
    WaitsOn (.write s.devAddr bytes) (.busWrite s.devAddr bytes .silent) (s.drawAt 0) s (busWrite bytes s k) := by
  rw [busWrite_silent hs.1 hs.2 bytes hsilent]
  refine ⟨stuck_hang (by simpa using hexec) _, hang_outstanding _ _, btReqValid_hang _ _, ?_, afterWrite_hi bytes s,
    afterWrite_rspStatus bytes s, afterWrite_rspData bytes s, afterWrite_idx bytes s, afterWrite_ports bytes s⟩
  rw [hang_events, afterWrite_events, hsilent]

/-- What follows a read does not happen where the read is never answered. -/
theorem busRead_waitsOn {s : State} (hs : Undisturbed s) (hexec : s.phase = .exec)
    (hsilent : drawReadAnswer s.dev (s.drawAt 0) = .silent) (k : Byte → State → State) :
    WaitsOn (.read s.devAddr) (.busRead s.devAddr .silent) (s.drawAt 0) s (busRead s k) := by
  rw [busRead_silent hs.1 hs.2 hsilent]
  refine ⟨stuck_hang (by simpa using hexec) _, hang_outstanding _ _, btReqValid_hang _ _, ?_, afterRead_hi s,
    afterRead_rspStatus s, afterRead_rspData s, afterRead_idx s, afterRead_ports s⟩
  rw [hang_events, afterRead_events, hsilent]

/-- Settles O23: every register command begins with its write, and what it does after that does not happen. -/
theorem unansweredWriteHangs : Obligations.UnansweredWriteHangs := by
  intro i bytes s hi hs hexec hsilent
  obtain ⟨k, hk⟩ := exec_of_firstBytes hi
  have hwaits := busWrite_waitsOn hs hexec hsilent bytes k
  exact ⟨_, hk s, hwaits.stuck, hwaits.outstanding, hwaits.reqValid, hwaits.events, hwaits.rspStatus, hwaits.rspData,
    hwaits.idx, hwaits.ports⟩

/-- Settles O24: the first read of READ and READPAIR alike, then the second read of READPAIR. -/
theorem unansweredReadHangs : Obligations.UnansweredReadHangs := by
  intro a s hs hexec hw
  refine ⟨fun hsilent i hi => ?_, fun hi hr hsilent => ?_⟩
  · obtain ⟨k, hk⟩ := exec_reading_selected hs hw hi
    have hwaits := busRead_waitsOn (hs.afterWrite [a]) hexec (by simpa using hsilent) k
    exact ⟨_, hk, hwaits.stuck, by simpa using hwaits.outstanding, by simpa using hwaits.reqValid,
      by simpa [hw] using hwaits.events, hwaits.hi, hwaits.rspStatus, hwaits.rspData⟩
  · have hwaits := busRead_waitsOn ((hs.afterWrite [a]).afterRead.setHi hi) (by simpa using hexec)
      (by simpa using hsilent) fun lo t => respond .ok (pairOf hi lo) t
    exact ⟨_, exec_readPair_high_read hs hw hr, hwaits.stuck, by simpa using hwaits.outstanding,
      by simpa using hwaits.reqValid, by simpa [hw, hr] using hwaits.events, by simpa using hwaits.hi,
      by simpa using hwaits.rspStatus, by simpa using hwaits.rspData⟩

/-- Settles O25, by the step in EXEC and the step under reset. -/
theorem onlyResetFreesAStuckBlock : Obligations.OnlyResetFreesAStuckBlock := by
  intro s ⟨hexec, hout⟩
  refine ⟨by simp [busy, cmdReady, hexec], fun hr => ?_, fun hr => ?_⟩
  · exact ⟨s.arrive, step_of_exec hr hexec, ⟨hexec, hout⟩, rfl, rfl⟩
  · exact ⟨_, step_of_reset hr, rfl, rfl, rfl⟩

end Sys2Proof.Machine
end

section
/-! SUPPORT. Commands answered by the reference device of 20_memory.md R76. -/

namespace Sys2Proof.Machine

/-! ### The reference device -/

@[simp] theorem reg_onRead (d : Device) (x : Byte) : d.onRead.reg x = d.reg x := rfl

theorem current_eq (d : Device) : d.current = d.reg d.ptr := rfl

theorem afterWrite_dev_of_reference {s : State} (h : s.drawAt 0 = .reference) (bytes : List Byte) :
    (s.afterWrite bytes).dev = s.dev.onWrite bytes := by
  rw [afterWrite_dev, h, drawDeviceAfterWrite]

theorem afterRead_dev_of_reference {s : State} (h : s.drawAt 0 = .reference) : s.afterRead.dev = s.dev.onRead := by
  rw [afterRead_dev, h, drawDeviceAfterRead]

/-! ### The register commands -/

section
variable {s : State} (hs : Undisturbed s)
include hs

theorem exec_select_reference (h0 : s.drawAt 0 = .reference) (a : Byte) :
    exec (.select a) s = .next (respondNow .ok 0 (s.afterWrite [a])) :=
  exec_select_answered hs (by rw [h0, drawWriteAnswer]) a

theorem exec_write_reference (h0 : s.drawAt 0 = .reference) (a v : Byte) :
    exec (.write a v) s = .next (respondNow .ok 0 (s.afterWrite [a, v])) :=
  exec_write_answered hs (by rw [h0, drawWriteAnswer]) a v

/-- READ responds the register at its address. -/
theorem exec_read_reference (h0 : s.drawAt 0 = .reference) (h1 : s.drawAt 1 = .reference) (a : Byte) :
    exec (.read a) s = .next (respondNow .ok (zext16 (s.dev.reg a)) (s.afterWrite [a]).afterRead) :=
  exec_read_answered hs (by rw [h0, drawWriteAnswer])
    (by simp [h0, h1, drawReadAnswer, drawDeviceAfterWrite, current_eq])

/-- READPAIR responds the register at its address and the next one. -/
theorem exec_readPair_reference (h0 : s.drawAt 0 = .reference) (h1 : s.drawAt 1 = .reference)
    (h2 : s.drawAt 2 = .reference) (a : Byte) :
    exec (.readPair a) s = .next (respondNow .ok (pairOf (s.dev.reg a) (s.dev.reg (a + 1)))
      ((s.afterWrite [a]).afterRead.setHi (s.dev.reg a)).afterRead) :=
  exec_readPair_answered hs (by rw [h0, drawWriteAnswer])
    (by simp [h0, h1, drawReadAnswer, drawDeviceAfterWrite, current_eq])
    (by simp [h0, h1, h2, drawReadAnswer, drawDeviceAfterWrite, drawDeviceAfterRead, current_eq])

end

/-- Settles O28: the device each command leaves is the reference device after that command's transactions. -/
theorem referenceDeviceRegisters : Obligations.ReferenceDeviceRegisters := by
  intro a v s t hs href
  have h0 := href 0 (by decide)
  have h1 := href 1 (by decide)
  have h2 := href 2 (by decide)
  refine ⟨fun he => ?select, fun he => ?read, fun he => ?readPair, fun he => ?write⟩
  case select =>
    obtain rfl := Host.Outcome.next.inj ((exec_select_reference hs h0 a).symm.trans he)
    rw [respondNow_dev, afterWrite_dev_of_reference h0]
    simp
  case read =>
    obtain rfl := Host.Outcome.next.inj ((exec_read_reference hs h0 h1 a).symm.trans he)
    rw [respondNow_dev, afterRead_dev_of_reference (by simpa using h1), afterWrite_dev_of_reference h0]
    simp
  case readPair =>
    obtain rfl := Host.Outcome.next.inj ((exec_readPair_reference hs h0 h1 h2 a).symm.trans he)
    rw [respondNow_dev, afterRead_dev_of_reference (by simpa using h2), setHi_dev,
      afterRead_dev_of_reference (by simpa using h1), afterWrite_dev_of_reference h0]
    simp [BitVec.add_assoc]
  case write =>
    obtain rfl := Host.Outcome.next.inj ((exec_write_reference hs h0 a v).symm.trans he)
    rw [respondNow_dev, afterWrite_dev_of_reference h0]
    simp +contextual [reg_setReg]

/-- A pair is its high byte shifted up by 8, or'ed with its low byte (40_register_protocol.md R137). -/
theorem pairOf_eq_shift_or (hi lo : Byte) : pairOf hi lo = zext16 hi <<< 8 ||| zext16 lo := by
  apply BitVec.eq_of_getLsbD_eq
  intro i hi
  simp [pairOf, zext16]
  grind

/-- Settles O30: the first READ leaves every register, so the second one reads what READPAIR's second read does. -/
theorem readPairIsTwoReads : Obligations.ReadPairIsTwoReads := by
  intro a s p r q hs href hp hr hq
  have h0 := href 0 (by decide)
  have h1 := href 1 (by decide)
  have h2 := href 2 (by decide)
  have h3 := href 3 (by decide)
  obtain rfl := Host.Outcome.next.inj ((exec_readPair_reference hs h0 h1 h2 a).symm.trans hp)
  have hkeep := ((referenceDeviceRegisters a 0 s r hs fun n hn => href n (by omega)).2.1 hr).2 (a + 1)
  obtain rfl := Host.Outcome.next.inj ((exec_read_reference hs h0 h1 a).symm.trans hr)
  have hs' : Undisturbed (respondNow .ok (zext16 (s.dev.reg a)) (s.afterWrite [a]).afterRead) :=
    (hs.afterWrite [a]).afterRead.respondNow _ _
  obtain rfl := Host.Outcome.next.inj
    ((exec_read_reference hs' (by simpa using h2) (by simpa using h3) (a + 1)).symm.trans hq)
  rw [respondNow_rspData, respondNow_rspData, respondNow_rspData, hkeep]
  exact pairOf_eq_shift_or _ _

end Sys2Proof.Machine
end

section
/-! SUPPORT. Every bus transaction is to `DEV_ADDR` and has a legal length (20_memory.md R71). -/

namespace Sys2Proof.Machine

/-- The event puts no request on the bus but a legal one to `a`. -/
def LegalTo (a : BusAddr) (e : Event) : Prop := ∀ r, e.request = some r → requestLegal a r = true

theorem legalTo_of_no_request {e : Event} (h : e.request = none) (a : BusAddr) : LegalTo a e := by
  simp [LegalTo, h]

theorem legalTo_busWrite (a : BusAddr) {bytes : List Byte} (h : bytes.length = 1 ∨ bytes.length = 2)
    (ans : WriteAnswer) : LegalTo a (.busWrite a bytes ans) := by
  simp [LegalTo, Event.request, requestLegal, h]

theorem legalTo_busRead (a : BusAddr) (ans : ReadAnswer) : LegalTo a (.busRead a ans) := by
  simp [LegalTo, Event.request, requestLegal]

/-- Since the history was `old` it has grown by events legal to `a` only. -/
def GrownLegal (a : BusAddr) (old : List Event) (t : State) : Prop := Grown (LegalTo a) old t.events

/-- Besides, `a` is `DEV_ADDR`: in the course of a command, where a reset is the only other thing that writes it. -/
def RunningLegal (a : BusAddr) (old : List Event) (t : State) : Prop := t.devAddr = a ∧ GrownLegal a old t

namespace RunningLegal

variable {a : BusAddr} {old : List Event}

theorem carries : Carries (RunningLegal a old) (GrownLegal a old) where
  due _ _ h _ := h.2
  nearer _ _ _ h _ := h
  quiet _ h _ := h

theorem respondNow {s : State} (h : RunningLegal a old s) (st : Status) (d : Half) :
    GrownLegal a old (respondNow st d s) := h.2.snoc (legalTo_of_no_request rfl a)

theorem respond {s : State} (h : RunningLegal a old s) (st : Status) (d : Half) :
    GrownLegal a old (respond st d s) := carries.gate h fun _ h => h.respondNow st d

theorem proceed {s : State} (h : RunningLegal a old s) (r : Option (Nat × BusAddr)) :
    RunningLegal a old (s.proceed r) := h

theorem hang {s : State} (h : RunningLegal a old s) (o : Outstanding) : GrownLegal a old (hang o s) := h.2

theorem afterWrite {s : State} (h : RunningLegal a old s) {bytes : List Byte}
    (hb : bytes.length = 1 ∨ bytes.length = 2) : RunningLegal a old (s.afterWrite bytes) := by
  obtain ⟨rfl, hgrown⟩ := h
  exact ⟨rfl, hgrown.snoc (legalTo_busWrite _ hb _)⟩

theorem afterRead {s : State} (h : RunningLegal a old s) : RunningLegal a old s.afterRead := by
  obtain ⟨rfl, hgrown⟩ := h
  exact ⟨rfl, hgrown.snoc (legalTo_busRead _ _)⟩

theorem busWrite {bytes : List Byte} (hb : bytes.length = 1 ∨ bytes.length = 2) :
    Keeps (RunningLegal a old) (GrownLegal a old) (busWrite bytes) := by
  intro s k h hk
  have hover (r) : RunningLegal a old ((s.proceed r).afterWrite bytes) := (h.proceed r).afterWrite hb
  exact busWrite_elim (P := GrownLegal a old) (fun _ _ => h.2) (fun r _ => hk _ (hover r))
    (fun r _ => (hover r).respond _ _) fun r _ => (hover r).hang _

theorem busRead {s : State} {k : Byte → State → State} (h : RunningLegal a old s)
    (hk : ∀ b t, RunningLegal a old t → GrownLegal a old (k b t)) : GrownLegal a old (busRead s k) := by
  have hover (r) : RunningLegal a old (s.proceed r).afterRead := (h.proceed r).afterRead
  exact busRead_elim (P := GrownLegal a old) (fun _ _ => h.2) (fun r b _ => hk b _ (hover r))
    (fun r _ => (hover r).respond _ _) fun r _ => (hover r).hang _

/-- A register command: its write transaction is of 1 byte, or of 2 in WRITE. `RpmCarries` does not serve here, for it
asks that a write of any length keep the property. -/
theorem exec_rpm {i : Instr} {s t : State} (hi : isRpm i = true) (h : RunningLegal a old s)
    (he : exec i s = .next t) : GrownLegal a old t := by
  cases i with
  | select addr =>
    obtain rfl := Host.Outcome.next.inj he
    exact busWrite (.inl rfl) s _ h fun s h => h.respond _ _
  | read addr =>
    obtain rfl := Host.Outcome.next.inj he
    refine busWrite (.inl rfl) s _ h fun s h => ?_
    exact busRead h fun b s h => h.respond _ _
  | readPair addr =>
    obtain rfl := Host.Outcome.next.inj he
    refine busWrite (.inl rfl) s _ h fun s h => ?_
    refine busRead h fun hi s h => ?_
    exact busRead (s := s.setHi hi) h fun lo s h => h.respond _ _
  | write addr v =>
    obtain rfl := Host.Outcome.next.inj he
    exact busWrite (.inr rfl) s _ h fun s h => h.respond _ _
  | step u d c => simp [isRpm] at hi
  | emit u => simp [isRpm] at hi

/-- A STEP or EMIT puts nothing on the bus. -/
theorem stepCarries (u : UnitNo) : StepCarries u (RunningLegal a old) (GrownLegal a old) :=
  have quiet {s : State} {e : Event} (he : e.request = none) (h : RunningLegal a old s) :
      RunningLegal a old (s.record e) := ⟨h.1, h.2.snoc (legalTo_of_no_request he a)⟩
  have hemission : Keeps (RunningLegal a old) (GrownLegal a old) (emission u) :=
    carries.emission (fun _ p h => quiet (e := .portWrite u p) rfl h) fun _ h => quiet (e := .portFlush u) rfl h
  { toCarries := carries
    emission := hemission
    settle := fun _ h => quiet (e := .settle u) rfl h
    setDuty := fun _ _ h => h
    shiftedEmission := fun _ _ s k h hk => hemission (s.moveIdx u _ _) k h hk
    setRem := fun _ _ h => h
    checkDuty := fun s h => by simpa [RunningLegal, GrownLegal] using h }

theorem runAccepted {s t : State} (h : RunningLegal a old s) (hrun : runAccepted s = .next t) : GrownLegal a old t := by
  rcases runAccepted_cases hrun with ⟨i, _, hi, he⟩ | ⟨u, d, c, _, hu, he⟩ | ⟨u, hu, he⟩ | rfl
  · exact exec_rpm hi h he
  · exact (stepCarries u).execStep (fun _ h _ _ => h.respondNow _ _) hu h he
  · exact (stepCarries u).execEmit (fun _ h _ => h.respondNow _ _) hu h he
  · exact h.respond _ _

end RunningLegal

/-- Settles O50, by the branches of a step: only an accepted command adds events. -/
theorem busTransactionsAreLegal : Obligations.BusTransactionsAreLegal := by
  intro s t hstep
  have hnone : Grown (LegalTo s.devAddr) s.events s.events := .refl _ _
  rcases step_cases hstep with ⟨_, rfl⟩ | ⟨_, _, _, hrun⟩ | ⟨_, _, _, rfl⟩ | ⟨_, _, rfl⟩
  · exact hnone
  · exact RunningLegal.runAccepted (s := s.arrive.accept s.inputs) ⟨rfl, hnone⟩ hrun
  · exact hnone
  · exact hnone

end Sys2Proof.Machine
end

section
/-! SUPPORT. The command word as the append of its fields, once for each of the two formats: what the field accessors
read from such a word, and what a mask leaves of it. The facts about the decoder and the encoder rest on these. -/

namespace Sys2Proof

/-- A word of format R (30_encoding.md R102): `OP`, four reserved bits, `ADDR`, eight reserved bits, `VALUE`. -/
def formatR (op r₁ : BitVec 4) (a r₂ v : Byte) : Word := op ++ r₁ ++ a ++ r₂ ++ v

/-- A word of format S (30_encoding.md R103): `OP`, `UNIT`, one reserved bit, `DIR`, `COUNT`. -/
def formatS (op : BitVec 4) (u : UnitNo) (r dir : BitVec 1) (c : StepCount) : Word := op ++ u ++ r ++ dir ++ c

theorem append_eq_append_iff {m k : Nat} {x x' : BitVec m} {y y' : BitVec k} :
    x ++ y = x' ++ y' ↔ x = x' ∧ y = y' := by
  refine ⟨fun h => ⟨?_, ?_⟩, fun ⟨hx, hy⟩ => hx ▸ hy ▸ rfl⟩
  · simpa only [BitVec.extractLsb'_append_eq_left] using congrArg (BitVec.extractLsb' k m) h
  · simpa only [BitVec.extractLsb'_append_eq_right] using congrArg (BitVec.extractLsb' 0 k) h

/-! ### Format R -/

section FormatR

variable {op op' r₁ r₁' : BitVec 4} {a a' r₂ r₂' v v' : Byte}

theorem formatR_inj : formatR op r₁ a r₂ v = formatR op' r₁' a' r₂' v' ↔
    op = op' ∧ r₁ = r₁' ∧ a = a' ∧ r₂ = r₂' ∧ v = v' := by
  change (op ++ r₁ ++ a ++ r₂ ++ v : BitVec (4 + 4 + 8 + 8 + 8)) = op' ++ r₁' ++ a' ++ r₂' ++ v' ↔ _
  simp only [append_eq_append_iff, and_assoc]

theorem formatR_and : formatR op r₁ a r₂ v &&& formatR op' r₁' a' r₂' v' =
    formatR (op &&& op') (r₁ &&& r₁') (a &&& a') (r₂ &&& r₂') (v &&& v') := by
  change (op ++ r₁ ++ a ++ r₂ ++ v : BitVec (4 + 4 + 8 + 8 + 8)) &&& (op' ++ r₁' ++ a' ++ r₂' ++ v') = _
  simp only [BitVec.and_append, formatR]

/-- Every word can be read as one of format R. -/
theorem formatR_fields (w : Word) :
    formatR (opField w) (w.extractLsb' 24 4) (addrField w) (w.extractLsb' 8 8) (valueField w) = w := by
  simp only [formatR, opField, addrField, valueField]
  iterate 4 rw [BitVec.extractLsb'_append_extractLsb'_eq_extractLsb' (by rfl)]
  exact BitVec.extractLsb'_eq_self

@[simp] theorem opField_formatR : opField (formatR op r₁ a r₂ v) = op :=
  (formatR_inj.1 (formatR_fields _)).1

@[simp] theorem addrField_formatR : addrField (formatR op r₁ a r₂ v) = a :=
  (formatR_inj.1 (formatR_fields _)).2.2.1

@[simp] theorem valueField_formatR : valueField (formatR op r₁ a r₂ v) = v :=
  (formatR_inj.1 (formatR_fields _)).2.2.2.2

/-- The reserved bits of SELECT, READ and READPAIR. -/
theorem formatR_and_reserved : formatR op r₁ a r₂ v &&& 0x0F00FFFF = 0 ↔ r₁ = 0 ∧ r₂ = 0 ∧ v = 0 := by
  have hmask : (0x0F00FFFF : Word) = formatR 0 (.allOnes 4) 0 (.allOnes 8) (.allOnes 8) := rfl
  have hzero : (0 : Word) = formatR 0 0 0 0 0 := rfl
  simp [-BitVec.reduceAllOnes, hmask, hzero, formatR_and, formatR_inj]

/-- The reserved bits of WRITE. -/
theorem formatR_and_reserved_write : formatR op r₁ a r₂ v &&& 0x0F00FF00 = 0 ↔ r₁ = 0 ∧ r₂ = 0 := by
  have hmask : (0x0F00FF00 : Word) = formatR 0 (.allOnes 4) 0 (.allOnes 8) 0 := rfl
  have hzero : (0 : Word) = formatR 0 0 0 0 0 := rfl
  simp [-BitVec.reduceAllOnes, hmask, hzero, formatR_and, formatR_inj]

/-- The mask of SELECT, READ and READPAIR is `OP` and the reserved bits. -/
theorem formatR_and_mask : formatR op r₁ a r₂ v &&& 0xFF00FFFF = formatR op' 0 0 0 0 ↔
    op = op' ∧ r₁ = 0 ∧ r₂ = 0 ∧ v = 0 := by
  have hmask : (0xFF00FFFF : Word) = formatR (.allOnes 4) (.allOnes 4) 0 (.allOnes 8) (.allOnes 8) := rfl
  simp [-BitVec.reduceAllOnes, hmask, formatR_and, formatR_inj]

/-- The mask of WRITE is `OP` and the reserved bits. -/
theorem formatR_and_mask_write : formatR op r₁ a r₂ v &&& 0xFF00FF00 = formatR op' 0 0 0 0 ↔
    op = op' ∧ r₁ = 0 ∧ r₂ = 0 := by
  have hmask : (0xFF00FF00 : Word) = formatR (.allOnes 4) (.allOnes 4) 0 (.allOnes 8) 0 := rfl
  simp [-BitVec.reduceAllOnes, hmask, formatR_and, formatR_inj]

end FormatR

/-! ### Format S -/

theorem extractLsb'_one_bit (w : Word) (k : Nat) : w.extractLsb' k 1 = BitVec.ofBool (w.getLsbD k) := by
  ext i hi
  obtain rfl : i = 0 := by omega
  simp

theorem dirField_bit (w : Word) : (dirField w).bit = w.extractLsb' 24 1 := by
  rw [extractLsb'_one_bit, dirField]
  cases w.getLsbD 24 <;> rfl

theorem bit_inj {d d' : Direction} : d.bit = d'.bit ↔ d = d' := by
  cases d <;> cases d' <;> decide

section FormatS

variable {op op' : BitVec 4} {u u' : UnitNo} {r r' dir dir' : BitVec 1} {c c' : StepCount}

theorem formatS_inj : formatS op u r dir c = formatS op' u' r' dir' c' ↔
    op = op' ∧ u = u' ∧ r = r' ∧ dir = dir' ∧ c = c' := by
  change (op ++ u ++ r ++ dir ++ c : BitVec (4 + 2 + 1 + 1 + 24)) = op' ++ u' ++ r' ++ dir' ++ c' ↔ _
  simp only [append_eq_append_iff, and_assoc]

theorem formatS_and : formatS op u r dir c &&& formatS op' u' r' dir' c' =
    formatS (op &&& op') (u &&& u') (r &&& r') (dir &&& dir') (c &&& c') := by
  change (op ++ u ++ r ++ dir ++ c : BitVec (4 + 2 + 1 + 1 + 24)) &&& (op' ++ u' ++ r' ++ dir' ++ c') = _
  simp only [BitVec.and_append, formatS]

/-- Every word can be read as one of format S. -/
theorem formatS_fields (w : Word) :
    formatS (opField w) (unitField w) (w.extractLsb' 25 1) (dirField w).bit (countField w) = w := by
  simp only [formatS, opField, unitField, dirField_bit, countField]
  iterate 4 rw [BitVec.extractLsb'_append_extractLsb'_eq_extractLsb' (by rfl)]
  exact BitVec.extractLsb'_eq_self

@[simp] theorem opField_formatS : opField (formatS op u r dir c) = op :=
  (formatS_inj.1 (formatS_fields _)).1

@[simp] theorem unitField_formatS : unitField (formatS op u r dir c) = u :=
  (formatS_inj.1 (formatS_fields _)).2.1

@[simp] theorem dirField_formatS {d : Direction} : dirField (formatS op u r d.bit c) = d :=
  bit_inj.1 (formatS_inj.1 (formatS_fields _)).2.2.2.1

@[simp] theorem countField_formatS : countField (formatS op u r dir c) = c :=
  (formatS_inj.1 (formatS_fields _)).2.2.2.2

/-- The reserved bit of STEP. -/
theorem formatS_and_reserved_step : formatS op u r dir c &&& 0x02000000 = 0 ↔ r = 0 := by
  have hmask : (0x02000000 : Word) = formatS 0 0 (.allOnes 1) 0 0 := rfl
  have hzero : (0 : Word) = formatS 0 0 0 0 0 := rfl
  simp [-BitVec.reduceAllOnes, hmask, hzero, formatS_and, formatS_inj]

/-- The reserved bits of EMIT. -/
theorem formatS_and_reserved_emit : formatS op u r dir c &&& 0x03FFFFFF = 0 ↔ r = 0 ∧ dir = 0 ∧ c = 0 := by
  have hmask : (0x03FFFFFF : Word) = formatS 0 0 (.allOnes 1) (.allOnes 1) (.allOnes 24) := rfl
  have hzero : (0 : Word) = formatS 0 0 0 0 0 := rfl
  simp [-BitVec.reduceAllOnes, hmask, hzero, formatS_and, formatS_inj]

/-- The mask of STEP is `OP` and the reserved bit. -/
theorem formatS_and_mask_step : formatS op u r dir c &&& 0xF2000000 = formatS op' 0 0 0 0 ↔ op = op' ∧ r = 0 := by
  have hmask : (0xF2000000 : Word) = formatS (.allOnes 4) 0 (.allOnes 1) 0 0 := rfl
  simp [-BitVec.reduceAllOnes, hmask, formatS_and, formatS_inj]

/-- The mask of EMIT is `OP` and the reserved bits. -/
theorem formatS_and_mask_emit : formatS op u r dir c &&& 0xF3FFFFFF = formatS op' 0 0 0 0 ↔
    op = op' ∧ r = 0 ∧ dir = 0 ∧ c = 0 := by
  have hmask : (0xF3FFFFFF : Word) = formatS (.allOnes 4) 0 (.allOnes 1) (.allOnes 1) (.allOnes 24) := rfl
  simp [-BitVec.reduceAllOnes, hmask, formatS_and, formatS_inj]

end FormatS

/-! ### The encoder -/

theorem encode_select (a : Byte) : encode (.select a) = formatR 0x1 0 a 0 0 := rfl
theorem encode_read (a : Byte) : encode (.read a) = formatR 0x2 0 a 0 0 := rfl
theorem encode_readPair (a : Byte) : encode (.readPair a) = formatR 0x3 0 a 0 0 := rfl
theorem encode_write (a v : Byte) : encode (.write a v) = formatR 0x4 0 a 0 v := rfl
theorem encode_step (u : UnitNo) (d : Direction) (c : StepCount) : encode (.step u d c) = formatS 0x8 u 0 d.bit c := rfl
theorem encode_emit (u : UnitNo) : encode (.emit u) = formatS 0x9 u 0 0 0 := rfl

end Sys2Proof
end

section
/-! SUPPORT. The decoder, said once for each value of `OP` and for the word of each command, and the statements that
follow: decoding and encoding are inverse to each other, R106 by cases, and R105's matches and masks. -/

namespace Sys2Proof

/-! ### The two conditions of a row -/

theorem ifReservedZero_of_zero {w reserved : Word} (h : w &&& reserved = 0) (i : Instr) :
    ifReservedZero w reserved i = .ok i := by
  simp [ifReservedZero, h]

theorem ifReservedZero_eq_ok {w reserved : Word} {i j : Instr} :
    ifReservedZero w reserved i = .ok j ↔ w &&& reserved = 0 ∧ i = j := by
  unfold ifReservedZero
  split
  · next h => simp only [h, true_and, Except.ok.injEq]
  · next h => simp only [h, false_and, reduceCtorEq]

theorem ifReservedZero_toOption (w reserved : Word) (i : Instr) :
    (ifReservedZero w reserved i).toOption = if w &&& reserved = 0 then some i else none := by
  unfold ifReservedZero
  split <;> rfl

theorem unitExists_unitField_iff {n : UnitCount} {w : Word} :
    unitExists n (unitField w) = true ↔ (w.extractLsb' 26 2).toNat < n.toNat := decide_eq_true_iff

theorem ifUnitExists_of_unit {n : UnitCount} {u : UnitNo} (h : unitExists n u = true) (x : Except Illegal Instr) :
    ifUnitExists n u x = x := by
  simp [ifUnitExists, h]

theorem ifUnitExists_eq_ok {n : UnitCount} {u : UnitNo} {x : Except Illegal Instr} {i : Instr} :
    ifUnitExists n u x = .ok i ↔ unitExists n u = true ∧ x = .ok i := by
  by_cases h : unitExists n u = true <;> simp [ifUnitExists, h]

theorem ifUnitExists_toOption (n : UnitCount) (u : UnitNo) (w reserved : Word) (i : Instr) :
    (ifUnitExists n u (ifReservedZero w reserved i)).toOption =
      if w &&& reserved = 0 ∧ u.toNat < n.toNat then some i else none := by
  by_cases h : u.toNat < n.toNat
  · simp only [ifUnitExists, unitExists, h, decide_true, if_true, ifReservedZero_toOption, and_true]
  · simp only [ifUnitExists, unitExists, h, decide_false, and_false, if_false]
    rfl

/-! ### The rows of the opcode map (30_encoding.md R105, R106) -/

section Rows

variable (n : UnitCount) {w : Word}

theorem decode_select_row (h : opField w = 0x1) :
    decode n w = ifReservedZero w 0x0F00FFFF (.select (addrField w)) := by
  simp [decode, h]

theorem decode_read_row (h : opField w = 0x2) :
    decode n w = ifReservedZero w 0x0F00FFFF (.read (addrField w)) := by
  simp [decode, h]

theorem decode_readPair_row (h : opField w = 0x3) :
    decode n w = ifReservedZero w 0x0F00FFFF (.readPair (addrField w)) := by
  simp [decode, h]

theorem decode_write_row (h : opField w = 0x4) :
    decode n w = ifReservedZero w 0x0F00FF00 (.write (addrField w) (valueField w)) := by
  simp [decode, h]

theorem decode_step_row (h : opField w = 0x8) :
    decode n w = ifUnitExists n (unitField w)
      (ifReservedZero w 0x02000000 (.step (unitField w) (dirField w) (countField w))) := by
  simp [decode, h]

theorem decode_emit_row (h : opField w = 0x9) :
    decode n w = ifUnitExists n (unitField w) (ifReservedZero w 0x03FFFFFF (.emit (unitField w))) := by
  simp [decode, h]

/-- Every other `OP` is reserved (R108). -/
theorem decode_reserved_row (h1 : opField w ≠ 0x1) (h2 : opField w ≠ 0x2) (h3 : opField w ≠ 0x3)
    (h4 : opField w ≠ 0x4) (h8 : opField w ≠ 0x8) (h9 : opField w ≠ 0x9) : decode n w = .error .reservedOp := by
  unfold decode
  split
  · exact absurd ‹_› h1
  · exact absurd ‹_› h2
  · exact absurd ‹_› h3
  · exact absurd ‹_› h4
  · exact absurd ‹_› h8
  · exact absurd ‹_› h9
  · rfl

end Rows

/-! ### Decode after encode -/

/-- Settles O1, by the rows: the word of a command has the row's `OP`, 0 in its reserved bits, and the operands in the
fields they are read from. -/
theorem decodeOfEncode : Obligations.DecodeOfEncode := by
  intro n i hwf
  cases i with
  | select a =>
    rw [encode_select, decode_select_row n opField_formatR,
      ifReservedZero_of_zero (formatR_and_reserved.2 ⟨rfl, rfl, rfl⟩), addrField_formatR]
  | read a =>
    rw [encode_read, decode_read_row n opField_formatR,
      ifReservedZero_of_zero (formatR_and_reserved.2 ⟨rfl, rfl, rfl⟩), addrField_formatR]
  | readPair a =>
    rw [encode_readPair, decode_readPair_row n opField_formatR,
      ifReservedZero_of_zero (formatR_and_reserved.2 ⟨rfl, rfl, rfl⟩), addrField_formatR]
  | write a v =>
    rw [encode_write, decode_write_row n opField_formatR,
      ifReservedZero_of_zero (formatR_and_reserved_write.2 ⟨rfl, rfl⟩), addrField_formatR, valueField_formatR]
  | step u d c =>
    rw [encode_step, decode_step_row n opField_formatS, unitField_formatS, ifUnitExists_of_unit hwf,
      ifReservedZero_of_zero (formatS_and_reserved_step.2 rfl), dirField_formatS, countField_formatS]
  | emit u =>
    rw [encode_emit, decode_emit_row n opField_formatS, unitField_formatS, ifUnitExists_of_unit hwf,
      ifReservedZero_of_zero (formatS_and_reserved_emit.2 ⟨rfl, rfl, rfl⟩)]

/-! ### Encode after decode -/

section Words

variable {w : Word} {op : BitVec 4}

/-- A word with 0 in the reserved bits of SELECT, READ and READPAIR is its `OP` and `ADDR`. -/
theorem formatR_of_reserved_zero (hop : opField w = op) (h : w &&& 0x0F00FFFF = 0) :
    formatR op 0 (addrField w) 0 0 = w := by
  rw [← formatR_fields w, formatR_and_reserved] at h
  obtain ⟨hr₁, hr₂, hv⟩ := h
  simpa [hop, hr₁, hr₂, hv] using formatR_fields w

theorem encode_write_fields (hop : opField w = 0x4) (h : w &&& 0x0F00FF00 = 0) :
    encode (.write (addrField w) (valueField w)) = w := by
  rw [← formatR_fields w, formatR_and_reserved_write] at h
  obtain ⟨hr₁, hr₂⟩ := h
  simpa [encode_write, hop, hr₁, hr₂] using formatR_fields w

theorem encode_step_fields (hop : opField w = 0x8) (h : w &&& 0x02000000 = 0) :
    encode (.step (unitField w) (dirField w) (countField w)) = w := by
  rw [← formatS_fields w, formatS_and_reserved_step] at h
  simpa [encode_step, hop, h] using formatS_fields w

theorem encode_emit_fields (hop : opField w = 0x9) (h : w &&& 0x03FFFFFF = 0) : encode (.emit (unitField w)) = w := by
  rw [← formatS_fields w, formatS_and_reserved_emit] at h
  obtain ⟨hr, hdir, hcount⟩ := h
  simpa [encode_emit, hop, hr, hdir, hcount] using formatS_fields w

end Words

/-- Settles O2, by the rows: a legal word is 0 in its reserved bits, so it is its `OP` and the fields that the command
is made of. -/
theorem encodeOfDecode : Obligations.EncodeOfDecode := by
  intro n w i h
  unfold decode at h
  split at h
  · next hop =>
    obtain ⟨hres, rfl⟩ := ifReservedZero_eq_ok.1 h
    exact ⟨formatR_of_reserved_zero hop hres, rfl⟩
  · next hop =>
    obtain ⟨hres, rfl⟩ := ifReservedZero_eq_ok.1 h
    exact ⟨formatR_of_reserved_zero hop hres, rfl⟩
  · next hop =>
    obtain ⟨hres, rfl⟩ := ifReservedZero_eq_ok.1 h
    exact ⟨formatR_of_reserved_zero hop hres, rfl⟩
  · next hop =>
    obtain ⟨hres, rfl⟩ := ifReservedZero_eq_ok.1 h
    exact ⟨encode_write_fields hop hres, rfl⟩
  · next hop =>
    obtain ⟨hunit, hrow⟩ := ifUnitExists_eq_ok.1 h
    obtain ⟨hres, rfl⟩ := ifReservedZero_eq_ok.1 hrow
    exact ⟨encode_step_fields hop hres, hunit⟩
  · next hop =>
    obtain ⟨hunit, hrow⟩ := ifUnitExists_eq_ok.1 h
    obtain ⟨hres, rfl⟩ := ifReservedZero_eq_ok.1 hrow
    exact ⟨encode_emit_fields hop hres, hunit⟩
  · nomatch h

/-! ### R106, by cases on `OP` -/

theorem and_bit25_eq_zero_iff (w : Word) : w &&& 0x02000000 = 0 ↔ w.getLsbD 25 = false := by
  rw [← formatS_fields w, formatS_and_reserved_step, formatS_fields, extractLsb'_one_bit]
  cases w.getLsbD 25 <;> decide

/-- Settles O3, row by row. -/
theorem decodeByOpField : Obligations.DecodeByOpField := by
  intro n w op addr unit
  refine ⟨fun h => ?_, fun h => ?_, fun h => ?_, fun h => ?_, fun h => ?_, fun h => ?_, fun h1 h2 h3 h4 h8 h9 => ?_⟩
  · rw [decode_select_row n h, ifReservedZero_toOption]; rfl
  · rw [decode_read_row n h, ifReservedZero_toOption]; rfl
  · rw [decode_readPair_row n h, ifReservedZero_toOption]; rfl
  · rw [decode_write_row n h, ifReservedZero_toOption]; rfl
  · rw [decode_step_row n h, ifUnitExists_toOption]
    simp only [and_bit25_eq_zero_iff]
    rfl
  · rw [decode_emit_row n h, ifUnitExists_toOption]; rfl
  · rw [decode_reserved_row n h1 h2 h3 h4 h8 h9]; rfl

/-! ### R105's matches and masks -/

section Masks

variable {w : Word} {op : BitVec 4}

theorem matches_formatR_iff : w &&& 0xFF00FFFF = formatR op 0 0 0 0 ↔ opField w = op ∧ w &&& 0x0F00FFFF = 0 := by
  rw [← formatR_fields w, formatR_and_mask, formatR_and_reserved, opField_formatR]

theorem matches_write_iff : w &&& 0xFF00FF00 = 0x40000000 ↔ opField w = 0x4 ∧ w &&& 0x0F00FF00 = 0 := by
  have hmatch : (0x40000000 : Word) = formatR 0x4 0 0 0 0 := rfl
  rw [← formatR_fields w, hmatch, formatR_and_mask_write, formatR_and_reserved_write, opField_formatR]

theorem matches_step_iff : w &&& 0xF2000000 = 0x80000000 ↔ opField w = 0x8 ∧ w &&& 0x02000000 = 0 := by
  have hmatch : (0x80000000 : Word) = formatS 0x8 0 0 0 0 := rfl
  rw [← formatS_fields w, hmatch, formatS_and_mask_step, formatS_and_reserved_step, opField_formatS]

theorem matches_emit_iff : w &&& 0xF3FFFFFF = 0x90000000 ↔ opField w = 0x9 ∧ w &&& 0x03FFFFFF = 0 := by
  have hmatch : (0x90000000 : Word) = formatS 0x9 0 0 0 0 := rfl
  rw [← formatS_fields w, hmatch, formatS_and_mask_emit, formatS_and_reserved_emit, opField_formatS]

end Masks

/-- Settles O4. A legal word is the encoding of its command, which has its row's fixed bits; a word with a row's fixed
bits has the row's `OP` and 0 in its reserved bits. -/
theorem legalByMatchAndMask : Obligations.LegalByMatchAndMask := by
  intro n w unitOk
  constructor
  · rintro ⟨i, h⟩
    obtain ⟨rfl, hwf⟩ := encodeOfDecode n w i h
    cases i with
    | select a => exact .inl (Laws.RowBits.select a)
    | read a => exact .inr (.inl (Laws.RowBits.read a))
    | readPair a => exact .inr (.inr (.inl (Laws.RowBits.readPair a)))
    | write a v => exact .inr (.inr (.inr (.inl (Laws.RowBits.write a v))))
    | step u d c =>
      have hunit : unitExists n (unitField (encode (.step u d c))) = true := by
        rw [encode_step, unitField_formatS]
        exact hwf
      exact .inr (.inr (.inr (.inr (.inl ⟨Laws.RowBits.step u d c, unitExists_unitField_iff.1 hunit⟩))))
    | emit u =>
      have hunit : unitExists n (unitField (encode (.emit u))) = true := by
        rw [encode_emit, unitField_formatS]
        exact hwf
      exact .inr (.inr (.inr (.inr (.inr ⟨Laws.RowBits.emit u, unitExists_unitField_iff.1 hunit⟩))))
  · rintro (h | h | h | h | ⟨h, hunit⟩ | ⟨h, hunit⟩)
    · obtain ⟨hop, hres⟩ := (matches_formatR_iff (op := 0x1)).1 h
      exact ⟨_, (decode_select_row n hop).trans (ifReservedZero_of_zero hres _)⟩
    · obtain ⟨hop, hres⟩ := (matches_formatR_iff (op := 0x2)).1 h
      exact ⟨_, (decode_read_row n hop).trans (ifReservedZero_of_zero hres _)⟩
    · obtain ⟨hop, hres⟩ := (matches_formatR_iff (op := 0x3)).1 h
      exact ⟨_, (decode_readPair_row n hop).trans (ifReservedZero_of_zero hres _)⟩
    · obtain ⟨hop, hres⟩ := matches_write_iff.1 h
      exact ⟨_, (decode_write_row n hop).trans (ifReservedZero_of_zero hres _)⟩
    · obtain ⟨hop, hres⟩ := matches_step_iff.1 h
      rw [decode_step_row n hop, ifUnitExists_of_unit (unitExists_unitField_iff.2 hunit)]
      exact ⟨_, ifReservedZero_of_zero hres _⟩
    · obtain ⟨hop, hres⟩ := matches_emit_iff.1 h
      rw [decode_emit_row n hop, ifUnitExists_of_unit (unitExists_unitField_iff.2 hunit)]
      exact ⟨_, ifReservedZero_of_zero hres _⟩

/-! ### R111's sample words -/

/-- Settles O5, word by word. -/
theorem sampleWordsDecode : Obligations.SampleWordsDecode := by
  unfold Obligations.SampleWordsDecode
  decide

end Sys2Proof
end

section
/-! SUPPORT. What an ILLEGAL command leaves: its response and nothing else (30_encoding.md R107). -/

namespace Sys2Proof.Machine

/-- The ILLEGAL response of a command that nothing disturbs. -/
theorem raiseIllegal_of_undisturbed {s : State} (h : Undisturbed s) :
    raiseIllegal s = { s with
      phase := .resp, rspStatus := 2, rspData := 0, events := s.events ++ [.respond .illegal 0] } := by
  rw [raiseIllegal, h.respond]
  obtain ⟨hnone, -⟩ := h
  cases s
  cases hnone
  rfl

/-- Settles O13: the accepted word is refused, with no settle running and no reset announced. -/
theorem illegalWordOnlyResponds : Obligations.IllegalWordOnlyResponds := by
  intro s x hphase htimer hlow hvalid hdecode
  have hnone : announcedReset s.inputs = none := announcedReset_of_low hlow
  have hquiet : Undisturbed (s.arrive.accept s.inputs) := ⟨hnone, htimer⟩
  rw [step_of_presented (by simp [hlow]) hphase hvalid,
    runAccepted_of_illegal (s := s.arrive.accept s.inputs) hdecode, raiseIllegal_of_undisturbed hquiet]
  simp [State.accept, hnone]

/-- Settles O14: `exec` itself refuses the unit. -/
theorem absentUnitIsIllegal : Obligations.AbsentUnitIsIllegal := by
  intro u d c s hquiet hunit
  rw [execStep_of_no_unit hunit, execEmit_of_no_unit hunit, raiseIllegal_of_undisturbed hquiet]
  exact ⟨rfl, rfl⟩

end Sys2Proof.Machine
end

section
/-! SUPPORT. The assembler: how a line is cut into tokens, what the operands of each kind stand for, and what each form
of line therefore assembles to (30_encoding.md R109). -/

namespace Sys2Proof.Asm

/-! ### Tokens -/

/-- The characters that end a word. -/
def isSeparator (c : Char) : Bool := c == ';' || c == ' ' || c == '\t' || c == ','

/-- Text that is read as one word: not empty, with no separator in it. -/
def isWord (cs : List Char) : Bool := !cs.isEmpty && cs.all fun c => !isSeparator c

theorem isWord_iff {cs : List Char} : isWord cs = true ↔ cs ≠ [] ∧ ∀ c ∈ cs, isSeparator c = false := by
  simp [isWord]

theorem isSeparator_eq_false_iff {c : Char} : isSeparator c = false ↔ c ≠ ';' ∧ c ≠ ' ' ∧ c ≠ '\t' ∧ c ≠ ',' := by
  simp [isSeparator, and_assoc]

theorem wordToken_of_isWord {cs : List Char} (h : isWord cs = true) : wordToken cs = [.word cs] := by
  cases cs with
  | nil => exact absurd rfl (isWord_iff.1 h).1
  | cons c cs => rfl

/-- The characters of a word join the word being read. -/
theorem tokens_append {cs : List Char} (h : ∀ c ∈ cs, isSeparator c = false) (rest cur : List Char) :
    tokens (cs ++ rest) cur = tokens rest (cur ++ cs) := by
  induction cs generalizing cur with
  | nil => simp
  | cons c cs ih =>
    obtain ⟨hc, hcs⟩ := List.forall_mem_cons.1 h
    obtain ⟨hsemi, hblank, htab, hcomma⟩ := isSeparator_eq_false_iff.1 hc
    simp [tokens, hsemi, hblank, htab, hcomma, ih hcs]

theorem tokens_blank (rest : List Char) : tokens (' ' :: rest) [] = tokens rest [] := rfl

section Word

variable {cs : List Char} (h : isWord cs = true)
include h

theorem tokens_word : tokens cs [] = [.word cs] := by
  have hread := tokens_append (isWord_iff.1 h).2 [] []
  rw [List.append_nil] at hread
  exact hread.trans (wordToken_of_isWord h)

theorem tokens_word_blank (rest : List Char) : tokens (cs ++ ' ' :: rest) [] = .word cs :: tokens rest [] := by
  rw [tokens_append (isWord_iff.1 h).2]
  exact congrArg (· ++ tokens rest []) (wordToken_of_isWord h)

theorem tokens_word_comma (rest : List Char) :
    tokens (cs ++ ',' :: rest) [] = .word cs :: .comma :: tokens rest [] := by
  rw [tokens_append (isWord_iff.1 h).2]
  exact congrArg (· ++ .comma :: tokens rest []) (wordToken_of_isWord h)

end Word

/-- What follows a semicolon plays no part. -/
theorem tokens_comment (text rest cur : List Char) : tokens (text ++ ';' :: rest) cur = tokens text cur := by
  induction text generalizing cur with
  | nil => rfl
  | cons c text ih => simp only [List.cons_append, tokens, ih]

/-! ### Numbers -/

theorem isSeparator_of_digit {base d : Nat} (hbase : base ≤ 16) {c : Char} (h : digit base c = some d) :
    isSeparator c = false := by
  have hnot {s : Char} (hs : digit base s = if 16 < base then some 16 else none) : c ≠ s := by
    rintro rfl
    rw [hs, if_neg (Nat.not_lt.2 hbase)] at h
    nomatch h
  exact isSeparator_eq_false_iff.2 ⟨hnot rfl, hnot rfl, hnot rfl, hnot rfl⟩

theorem isSeparator_of_digits {base : Nat} (hbase : base ≤ 16) {cs : List Char} {acc v : Nat}
    (h : digits base cs acc = some v) : ∀ c ∈ cs, isSeparator c = false := by
  induction cs generalizing acc with
  | nil => nofun
  | cons c cs ih =>
    simp only [digits] at h
    split at h
    · next d hd => exact List.forall_mem_cons.2 ⟨isSeparator_of_digit hbase hd, ih h⟩
    · nomatch h

theorem isWord_of_number {cs : List Char} {v : Nat} (h : number cs = some v) : isWord cs = true := by
  unfold number at h
  split at h
  · have hdigits := isSeparator_of_digits (le_refl 16) h
    exact isWord_iff.2 ⟨nofun, List.forall_mem_cons.2 ⟨rfl, List.forall_mem_cons.2 ⟨rfl, hdigits⟩⟩⟩
  · exact isWord_iff.2 ⟨nofun, isSeparator_of_digits (by decide) h⟩
  · nomatch h

theorem numberUpTo_of_number {cs : List Char} {v : Nat} (h : number cs = some v) (top : Nat) :
    numberUpTo top cs = if v ≤ top then some v else none := by
  simp only [numberUpTo, h]

theorem numberUpTo_le {top v : Nat} {cs : List Char} (h : numberUpTo top cs = some v) : v ≤ top := by
  unfold numberUpTo at h
  split at h
  · split at h
    · next hle => exact Option.some.inj h ▸ hle
    · nomatch h
  · nomatch h

/-! ### Register names (20_memory.md R78) -/

theorem lookupName_of_mem {l : List (List Char × Byte)} (hkeys : (l.map Prod.fst).Nodup) {name : List Char} {b : Byte}
    (h : (name, b) ∈ l) : lookupName l name = some b := by
  induction l with
  | nil => nomatch h
  | cons e l ih =>
    obtain ⟨hnew, hkeys⟩ := List.nodup_cons.1 hkeys
    rcases List.mem_cons.1 h with rfl | h
    · simp [lookupName]
    · have hne : e.1 ≠ name := fun heq => hnew (heq ▸ List.mem_map_of_mem h)
      simp [lookupName, hne, ih hkeys h]

theorem lookupName_of_not_mem {l : List (List Char × Byte)} {cs : List Char} (h : cs ∉ l.map Prod.fst) :
    lookupName l cs = none := by
  induction l with
  | nil => rfl
  | cons e l ih =>
    obtain ⟨hne, hrest⟩ := not_or.1 (fun hmem => h (List.mem_cons.2 hmem))
    simp [lookupName, Ne.symm hne, ih hrest]

/-- The addresses play no part in the names. -/
theorem regNames_keys (r : RegMap) : (regNames r).map Prod.fst = (regNames Config.defaultRegs).map Prod.fst := rfl

theorem regNames_keys_nodup (r : RegMap) : ((regNames r).map Prod.fst).Nodup := by
  rw [regNames_keys]
  decide

theorem isWord_of_regName {r : RegMap} {name : List Char} (h : name ∈ (regNames r).map Prod.fst) :
    isWord name = true := by
  have hall : ((regNames Config.defaultRegs).map Prod.fst).all isWord = true := rfl
  exact List.all_eq_true.1 hall name (regNames_keys r ▸ h)

theorem number_of_regName {r : RegMap} {name : List Char} (h : name ∈ (regNames r).map Prod.fst) :
    number name = none := by
  rw [regNames_keys] at h
  revert name
  decide

/-! ### Operands -/

theorem byteOperand_of_name {r : RegMap} {name : List Char} {b : Byte} (h : (name, b) ∈ regNames r) :
    byteOperand r name = some b := by
  simp [byteOperand, lookupName_of_mem (regNames_keys_nodup r) h]

section Number

variable {cs : List Char} {v : Nat} (h : number cs = some v)
include h

theorem byteOperand_of_number (r : RegMap) :
    byteOperand r cs = if v ≤ 255 then some (BitVec.ofNat 8 v) else none := by
  have hname : cs ∉ (regNames r).map Prod.fst := fun hmem => by simp [number_of_regName hmem] at h
  simp only [byteOperand, lookupName_of_not_mem hname, numberUpTo_of_number h]
  split <;> rfl

theorem unitOperand_of_number (n : UnitCount) :
    unitOperand n cs = if v < n.toNat then some (BitVec.ofNat 2 v) else none := by
  have hrange : v ≤ n.toNat - 1 ↔ v < n.toNat := by
    have hpos : 0 < n.toNat := by cases n <;> decide
    omega
  simp only [unitOperand, numberUpTo_of_number h, hrange]
  split <;> rfl

theorem countOperand_of_number :
    countOperand cs = if v ≤ 16777215 then some (BitVec.ofNat 24 v) else none := by
  simp only [countOperand, numberUpTo_of_number h]
  split <;> rfl

end Number

/-- The unit an operand spells exists. -/
theorem unitExists_of_unitOperand {n : UnitCount} {cs : List Char} {u : UnitNo} (h : unitOperand n cs = some u) :
    unitExists n u = true := by
  obtain ⟨v, hv, rfl⟩ := Option.map_eq_some_iff.1 h
  have hle := numberUpTo_le hv
  have hlt : v % 4 < n.toNat := by cases n <;> simp only [UnitCount.toNat] at hle ⊢ <;> omega
  simpa [unitExists] using hlt

/-! ### Lines -/

/-- What a line of tokens assembles to: the word of the command they spell, if they spell one. -/
def lineOf : Option Instr → Line
  | some i => .command (encode i)
  | none => .refused

theorem assembleLine_of_tokens (r : RegMap) (n : UnitCount) {text : List Char} {t : Token} {ts : List Token}
    (h : tokens text [] = t :: ts) : assembleLine r n (String.ofList text) = lineOf (parse r n (t :: ts)) := by
  simp only [assembleLine, String.toList_ofList, h]
  cases parse r n (t :: ts) <;> rfl

theorem assembleLine_eq_command {r : RegMap} {n : UnitCount} {line : String} {w : Word}
    (h : assembleLine r n line = .command w) : ∃ i, parse r n (tokens line.toList []) = some i ∧ encode i = w := by
  unfold assembleLine at h
  split at h
  · nomatch h
  · next t ts htokens =>
    split at h
    · next i hi => exact ⟨i, htokens ▸ hi, Line.command.inj h⟩
    · nomatch h

/-- A command that is parsed is one the block has. -/
theorem wellFormed_of_parse {r : RegMap} {n : UnitCount} {ts : List Token} {i : Instr} (h : parse r n ts = some i) :
    i.wellFormed n = true := by
  unfold parse at h
  split at h
  · split at h
    · obtain ⟨b, -, rfl⟩ := Option.map_eq_some_iff.1 h
      rfl
    split at h
    · obtain ⟨b, -, rfl⟩ := Option.map_eq_some_iff.1 h
      rfl
    split at h
    · obtain ⟨b, -, rfl⟩ := Option.map_eq_some_iff.1 h
      rfl
    split at h
    · obtain ⟨u, hu, rfl⟩ := Option.map_eq_some_iff.1 h
      exact unitExists_of_unitOperand hu
    · nomatch h
  · split at h
    · obtain ⟨a, -, h⟩ := Option.bind_eq_some_iff.1 h
      obtain ⟨b, -, rfl⟩ := Option.map_eq_some_iff.1 h
      rfl
    · nomatch h
  · split at h
    · obtain ⟨u, hu, h⟩ := Option.bind_eq_some_iff.1 h
      obtain ⟨d, -, h⟩ := Option.bind_eq_some_iff.1 h
      obtain ⟨c, -, rfl⟩ := Option.map_eq_some_iff.1 h
      exact unitExists_of_unitOperand hu
    · nomatch h
  · nomatch h

/-! ### The forms of a line (30_encoding.md R109) -/

section Forms

variable (r : RegMap) (n : UnitCount) {m a b d : List Char}

/-- A mnemonic and one operand. -/
theorem assembleLine_one (hm : isWord m = true) (ha : isWord a = true) :
    assembleLine r n (String.ofList (m ++ ' ' :: a)) = lineOf (parse r n [.word m, .word a]) :=
  assembleLine_of_tokens r n (by rw [tokens_word_blank hm, tokens_word ha])

/-- A mnemonic and two operands. -/
theorem assembleLine_two (hm : isWord m = true) (ha : isWord a = true) (hb : isWord b = true) :
    assembleLine r n (String.ofList (m ++ ' ' :: (a ++ ',' :: ' ' :: b))) =
      lineOf (parse r n [.word m, .word a, .comma, .word b]) :=
  assembleLine_of_tokens r n (by rw [tokens_word_blank hm, tokens_word_comma ha, tokens_blank, tokens_word hb])

/-- A mnemonic and three operands. -/
theorem assembleLine_three (hm : isWord m = true) (ha : isWord a = true) (hd : isWord d = true) (hb : isWord b = true) :
    assembleLine r n (String.ofList (m ++ ' ' :: (a ++ ',' :: ' ' :: (d ++ ',' :: ' ' :: b)))) =
      lineOf (parse r n [.word m, .word a, .comma, .word d, .comma, .word b]) :=
  assembleLine_of_tokens r n (by
    rw [tokens_word_blank hm, tokens_word_comma ha, tokens_blank, tokens_word_comma hd, tokens_blank, tokens_word hb])

theorem assembleLine_select (ha : isWord a = true) :
    assembleLine r n (String.ofList ("SELECT ".toList ++ a)) = lineOf ((byteOperand r a).map .select) :=
  assembleLine_one r n (m := "SELECT".toList) rfl ha

theorem assembleLine_read (ha : isWord a = true) :
    assembleLine r n (String.ofList ("READ ".toList ++ a)) = lineOf ((byteOperand r a).map .read) :=
  assembleLine_one r n (m := "READ".toList) rfl ha

theorem assembleLine_readPair (ha : isWord a = true) :
    assembleLine r n (String.ofList ("READPAIR ".toList ++ a)) = lineOf ((byteOperand r a).map .readPair) :=
  assembleLine_one r n (m := "READPAIR".toList) rfl ha

theorem assembleLine_emit (ha : isWord a = true) :
    assembleLine r n (String.ofList ("EMIT ".toList ++ a)) = lineOf ((unitOperand n a).map .emit) :=
  assembleLine_one r n (m := "EMIT".toList) rfl ha

theorem assembleLine_write (ha : isWord a = true) (hb : isWord b = true) :
    assembleLine r n (String.ofList ("WRITE ".toList ++ a ++ ", ".toList ++ b)) =
      lineOf ((byteOperand r a).bind fun addr => (byteOperand r b).map fun value => .write addr value) := by
  rw [List.append_assoc]
  exact assembleLine_two r n (m := "WRITE".toList) rfl ha hb

/-- `text` spells the direction. -/
theorem assembleLine_step {text : List Char} {dir : Direction} (htext : isWord text = true)
    (hdir : dirOperand text = some dir) (ha : isWord a = true) (hb : isWord b = true) :
    assembleLine r n (String.ofList ("STEP ".toList ++ (a ++ ',' :: ' ' :: (text ++ ',' :: ' ' :: b)))) =
      lineOf ((unitOperand n a).bind fun unit => (countOperand b).map fun count => .step unit dir count) := by
  refine (assembleLine_three r n (m := "STEP".toList) rfl ha htext hb).trans ?_
  change lineOf ((unitOperand n a).bind fun unit => (dirOperand text).bind fun dir =>
    (countOperand b).map fun count => .step unit dir count) = _
  rw [hdir]
  rfl

end Forms

/-! ### Numbers in and out of range -/

section Ranges

variable {α β : Type} (p q : Prop) [Decidable p] [Decidable q]

/-- A line with one operand that is in range or not. -/
theorem lineOf_map_ite (x : α) (f : α → Instr) :
    lineOf ((if p then some x else none).map f) = if p then .command (encode (f x)) else .refused := by
  split <;> rfl

/-- A line with two operands, each in range or not. -/
theorem lineOf_bind_ite (x : α) (y : β) (f : α → β → Instr) :
    lineOf ((if p then some x else none).bind fun x => (if q then some y else none).map (f x)) =
      if p ∧ q then .command (encode (f x y)) else .refused := by
  by_cases hp : p <;> by_cases hq : q <;> simp [hp, hq, lineOf]

end Ranges

/-- Settles O6: a parsed command is well-formed, so its word decodes to it; and each form of line is cut into its words,
each operand being its number or out of range. -/
theorem assembledWordsAreLegal : Obligations.AssembledWordsAreLegal := by
  constructor
  · intro r n line w h
    obtain ⟨i, hparse, rfl⟩ := assembleLine_eq_command h
    exact ⟨i, hparse, decodeOfEncode n i (wellFormed_of_parse hparse)⟩
  · intro r n a b v w hv hw asm
    have ha : isWord a = true := isWord_of_number hv
    have hb : isWord b = true := isWord_of_number hw
    have hunit := unitOperand_of_number hv n
    have hcount := countOperand_of_number hw
    have hbyte := byteOperand_of_number hv r
    have hbyte' := byteOperand_of_number hw r
    refine ⟨?_, ?_, ?_, ?_, ?_, ?_, ?_⟩
    · exact (assembleLine_select r n ha).trans (hbyte ▸ lineOf_map_ite _ _ _)
    · exact (assembleLine_read r n ha).trans (hbyte ▸ lineOf_map_ite _ _ _)
    · exact (assembleLine_readPair r n ha).trans (hbyte ▸ lineOf_map_ite _ _ _)
    · exact (assembleLine_write r n ha hb).trans (hbyte ▸ hbyte' ▸ lineOf_bind_ite _ _ _ _ _)
    · refine (congrArg asm (List.append_assoc _ _ _)).trans ?_
      exact (assembleLine_step r n (text := "CW".toList) rfl rfl ha hb).trans
        (hunit ▸ hcount ▸ lineOf_bind_ite _ _ _ _ _)
    · refine (congrArg asm (List.append_assoc _ _ _)).trans ?_
      exact (assembleLine_step r n (text := "CCW".toList) rfl rfl ha hb).trans
        (hunit ▸ hcount ▸ lineOf_bind_ite _ _ _ _ _)
    · exact (assembleLine_emit r n ha).trans (hunit ▸ lineOf_map_ite _ _ _)

/-- Settles O57: a name is one word that the table gives its address, and a comment is cut off with the tokens. -/
theorem assemblerNamesAndComments : Obligations.AssemblerNamesAndComments := by
  constructor
  · intro r n name b hmem asm
    have hname : (name.toList, b) ∈ regNames r :=
      List.mem_map_of_mem (f := fun e : String × Byte => (e.1.toList, e.2)) hmem
    have hword : isWord name.toList = true := isWord_of_regName (List.mem_map_of_mem (f := Prod.fst) hname)
    have hbyte : byteOperand r name.toList = some b := byteOperand_of_name hname
    refine ⟨?_, ?_, ?_, ?_⟩
    · exact (assembleLine_select r n hword).trans (hbyte ▸ rfl)
    · exact (assembleLine_read r n hword).trans (hbyte ▸ rfl)
    · exact (assembleLine_readPair r n hword).trans (hbyte ▸ rfl)
    · exact (assembleLine_write r n hword hword).trans (hbyte ▸ rfl)
  · intro r n text rest
    simp only [assembleLine, String.toList_ofList, tokens_comment]

end Sys2Proof.Asm
end

section
/-! SUPPORT. The exact state a register command leaves when no reset disturbs it, by how many of its transactions have
been answered (40_register_protocol.md R130 to R135): the response after the first write, after the first read and after
the second read serves the OK and the BUS_FAIL ending alike. -/

namespace Sys2Proof.Machine

/-! ### The response after each transaction -/

/-- The response changes the phase, the response registers and the history. -/
theorem respondNow_of_undisturbed {s : State} (h : Undisturbed s) (st : Status) (d : Half) :
    respondNow st d s = { s with
      phase := .resp, rspStatus := st.code, rspData := d, events := s.events ++ [.respond st d] } := by
  obtain ⟨hnone, -⟩ := h
  cases s
  cases hnone
  rfl

section
variable {s : State} (hs : Undisturbed s) (st : Status) (d : Half)
include hs

theorem respondNow_afterWrite (bytes : List Byte) {ans : WriteAnswer} (hw : drawWriteAnswer (s.drawAt 0) = ans) :
    respondNow st d (s.afterWrite bytes) = { s with
      phase := .resp
      rspStatus := st.code
      rspData := d
      events := s.events ++ [.busWrite s.devAddr bytes ans, .respond st d]
      dev := drawDeviceAfterWrite s.dev bytes (s.drawAt 0)
      bus := s.bus.tail
      draws := s.draws + 1 } := by
  rw [respondNow_of_undisturbed (hs.afterWrite bytes)]
  simp [hw]

variable (hw : drawWriteAnswer (s.drawAt 0) = .ok) {a : Byte}
include hw

theorem respondNow_afterRead {ans : ReadAnswer}
    (hr : drawReadAnswer (drawDeviceAfterWrite s.dev [a] (s.drawAt 0)) (s.drawAt 1) = ans) :
    respondNow st d (s.afterWrite [a]).afterRead = { s with
      phase := .resp
      rspStatus := st.code
      rspData := d
      events := s.events ++ [.busWrite s.devAddr [a] .ok, .busRead s.devAddr ans, .respond st d]
      dev := drawDeviceAfterRead (drawDeviceAfterWrite s.dev [a] (s.drawAt 0)) (s.drawAt 1)
      bus := s.bus.tail.tail
      draws := s.draws + 2 } := by
  rw [respondNow_of_undisturbed (hs.afterWrite [a]).afterRead]
  simp [hw, hr]

theorem respondNow_afterSecondRead {hi : Byte} {ans : ReadAnswer}
    (hr : drawReadAnswer (drawDeviceAfterWrite s.dev [a] (s.drawAt 0)) (s.drawAt 1) = .ok hi)
    (hr2 : drawReadAnswer (drawDeviceAfterRead (drawDeviceAfterWrite s.dev [a] (s.drawAt 0)) (s.drawAt 1))
      (s.drawAt 2) = ans) :
    respondNow st d ((s.afterWrite [a]).afterRead.setHi hi).afterRead = { s with
      phase := .resp
      rspStatus := st.code
      rspData := d
      hi := hi
      events := s.events ++ [.busWrite s.devAddr [a] .ok, .busRead s.devAddr (.ok hi), .busRead s.devAddr ans,
        .respond st d]
      dev := drawDeviceAfterRead
        (drawDeviceAfterRead (drawDeviceAfterWrite s.dev [a] (s.drawAt 0)) (s.drawAt 1)) (s.drawAt 2)
      bus := s.bus.tail.tail.tail
      draws := s.draws + 3 } := by
  have hpair := (hs.afterWrite [a]).afterRead.setHi hi
  rw [respondNow_of_undisturbed hpair.afterRead]
  simp [hw, hr, hr2]

end

/-! ### Every transaction answered Ok -/

/-- The pair read as two's complement (00_scope.md R10, 20_memory.md R90). -/
theorem s16_append (hi lo : Byte) : s16 (hi ++ lo) =
    if 256 * hi.toNat + lo.toNat < 32768 then (256 * hi.toNat + lo.toNat : Int)
    else (256 * hi.toNat + lo.toNat : Int) - 65536 := by
  have hnat : (hi ++ lo : Half).toNat = 256 * hi.toNat + lo.toNat := by
    rw [BitVec.toNat_append, ← Nat.shiftLeft_add_eq_or_of_lt lo.isLt, Nat.shiftLeft_eq]
    omega
  rw [s16, BitVec.toInt_eq_toNat_cond, hnat]
  split <;> split <;> omega

/-- Settles O16, as the response after the first write. -/
theorem selectCompletes : Obligations.SelectCompletes := by
  intro a s hs hw
  rw [exec_select_answered hs hw, respondNow_afterWrite hs _ _ _ hw, Status.code]

/-- Settles O17, as the response after the first write, here of two bytes. -/
theorem writeCompletes : Obligations.WriteCompletes := by
  intro a v s hs hw
  rw [exec_write_answered hs hw, respondNow_afterWrite hs _ _ _ hw, Status.code]

/-- Settles O18, as the response after the first read. -/
theorem readCompletes : Obligations.ReadCompletes := by
  intro a b s hs hw hr
  rw [exec_read_answered hs hw hr, respondNow_afterRead hs _ _ hw hr, Status.code, zext16]

/-- Settles O19, as the response after the second read, and the signed value of the pair. -/
theorem readPairCompletes : Obligations.ReadPairCompletes := by
  intro a hi lo s hs hw hr hr2
  refine ⟨?_, s16_append hi lo⟩
  rw [exec_readPair_answered hs hw hr hr2, respondNow_afterSecondRead hs _ _ hw hr hr2, Status.code, pairOf]

/-- Settles O29, from the READ and READPAIR of the reference device. -/
theorem referenceDeviceReads : Obligations.ReferenceDeviceReads := by
  intro a s hs href
  have h0 := href 0 (by decide)
  have h1 := href 1 (by decide)
  have h2 := href 2 (by decide)
  exact ⟨⟨_, exec_read_reference hs h0 h1 a, rfl, rfl, rfl⟩,
    ⟨_, exec_readPair_reference hs h0 h1 h2 a, rfl, rfl, rfl, rfl⟩⟩

/-! ### A transaction that fails -/

/-- Settles O20: what follows a register command's first write does not happen. -/
theorem failedWriteEndsCommand : Obligations.FailedWriteEndsCommand := by
  intro i bytes s hbytes hs hw
  obtain ⟨k, hk⟩ := exec_of_firstBytes hbytes
  rw [hk, busWrite_fail hs.1 hs.2 _ hw, respondNow_afterWrite hs _ _ _ hw, Status.code]

/-- Settles O21: what follows the first read does not happen, be it READ's response or READPAIR's second read. -/
theorem failedFirstReadEndsCommand : Obligations.FailedFirstReadEndsCommand := by
  intro a s hs hw hr i hi
  obtain ⟨k, hk⟩ := exec_reading_selected hs hw hi
  have hselected := hs.afterWrite [a]
  rw [hk, busRead_fail hselected.1 hselected.2 (by simpa using hr), respondNow_afterRead hs _ _ hw hr, Status.code]

/-- Settles O22: the response does not happen, and `HI` has been written before the read that fails. -/
theorem failedSecondReadEndsReadPair : Obligations.FailedSecondReadEndsReadPair := by
  intro a hi s hs hw hr hr2
  have hpair := (hs.afterWrite [a]).afterRead.setHi hi
  rw [exec_readPair_high_read hs hw hr, busRead_fail hpair.1 hpair.2 (by simpa using hr2),
    respondNow_afterSecondRead hs _ _ hw hr hr2, Status.code]

end Sys2Proof.Machine
end

section
/-! SUPPORT. How a register command that no reset disturbs can end, and what none of its endings changes
(40_register_protocol.md R130). -/

namespace Sys2Proof.Machine

/-! ### The endings of a register command -/

/-- With its transactions over, the command goes from `s` to its end `t`: it responds, or it waits on the last of them. -/
inductive EndsIn (s t : State) : Prop
  | responds (st : Status) (d : Half) (h : t = respondNow st d s)
  | waits (o : Outstanding) (h : t = hang o s)

/-- The ends of a register command `i` from `s`: after its first write; for READ and READPAIR, after the read too; for
READPAIR, after a second read too, with the first byte in `HI`. -/
inductive RpmEnd (i : Instr) (s t : State) : Prop
  | written (bytes : List Byte) (hi : firstBytes i = some bytes) (h : EndsIn (s.afterWrite bytes) t)
  | read (a : Byte) (hi : i = .read a ∨ i = .readPair a) (h : EndsIn (s.afterWrite [a]).afterRead t)
  | readTwice (a high : Byte) (hi : i = .readPair a) (h : EndsIn ((s.afterWrite [a]).afterRead.setHi high).afterRead t)

section
variable {s : State} (hs : Undisturbed s)
include hs

theorem Undisturbed.respond_endsIn (st : Status) (d : Half) : EndsIn s (Machine.respond st d s) :=
  .responds st d (hs.respond st d)

/-- A write ends the command, or what follows it runs. -/
theorem Undisturbed.busWrite {Q : State → Prop} {bytes : List Byte} {k : State → State}
    (hend : ∀ t, EndsIn (s.afterWrite bytes) t → Q t) (hk : Q (k (s.afterWrite bytes))) :
    Q (Machine.busWrite bytes s k) := by
  cases hw : drawWriteAnswer (s.drawAt 0) with
  | ok => rwa [busWrite_ok hs.1 hs.2 bytes hw]
  | fail => exact hend _ (.responds _ _ (busWrite_fail hs.1 hs.2 bytes hw k))
  | silent => exact hend _ (.waits _ (busWrite_silent hs.1 hs.2 bytes hw k))

/-- A read ends the command, or what follows it runs, whatever the byte. -/
theorem Undisturbed.busRead {Q : State → Prop} {k : Byte → State → State}
    (hend : ∀ t, EndsIn s.afterRead t → Q t) (hk : ∀ b, Q (k b s.afterRead)) : Q (Machine.busRead s k) := by
  cases hr : drawReadAnswer s.dev (s.drawAt 0) with
  | ok b => rw [busRead_ok hs.1 hs.2 hr]; exact hk b
  | fail => exact hend _ (.responds _ _ (busRead_fail hs.1 hs.2 hr k))
  | silent => exact hend _ (.waits _ (busRead_silent hs.1 hs.2 hr k))

theorem exec_rpmEnd {i : Instr} {t : State} (hi : isRpm i = true) (he : exec i s = .next t) : RpmEnd i s t := by
  cases i with
  | select a =>
    obtain rfl := Host.Outcome.next.inj he
    refine hs.busWrite (fun t h => .written [a] rfl h) ?_
    exact .written [a] rfl ((hs.afterWrite [a]).respond_endsIn _ _)
  | write a v =>
    obtain rfl := Host.Outcome.next.inj he
    refine hs.busWrite (fun t h => .written [a, v] rfl h) ?_
    exact .written [a, v] rfl ((hs.afterWrite [a, v]).respond_endsIn _ _)
  | read a =>
    obtain rfl := Host.Outcome.next.inj he
    have hselected := hs.afterWrite [a]
    refine hs.busWrite (fun t h => .written [a] rfl h) ?_
    refine hselected.busRead (fun t h => .read a (.inl rfl) h) fun b => ?_
    exact .read a (.inl rfl) (hselected.afterRead.respond_endsIn _ _)
  | readPair a =>
    obtain rfl := Host.Outcome.next.inj he
    have hselected := hs.afterWrite [a]
    refine hs.busWrite (fun t h => .written [a] rfl h) ?_
    refine hselected.busRead (fun t h => .read a (.inr rfl) h) fun high => ?_
    have hhigh := hselected.afterRead.setHi high
    refine hhigh.busRead (fun t h => .readTwice a high rfl h) fun low => ?_
    exact .readTwice a high rfl (hhigh.afterRead.respond_endsIn _ _)
  | step u d c => simp [isRpm] at hi
  | emit u => simp [isRpm] at hi

end

/-! ### What a register command leaves alone -/

/-- What O26 says no register command changes from `s` to `t`, but for `HI`. -/
def RpmUnchanged (s t : State) : Prop :=
  t.idx = s.idx ∧ t.ports = s.ports ∧ t.rem = s.rem ∧ t.devAddr = s.devAddr ∧ t.cmd = s.cmd ∧ t.timer = s.timer ∧
    t.params = s.params ∧ t.hostFaults = s.hostFaults ∧ t.host = s.host

/-- The response and the wait change neither these nor `HI`. -/
theorem EndsIn.rpmUnchanged {s t : State} (h : EndsIn s t) : RpmUnchanged s t ∧ t.hi = s.hi := by
  cases h with
  | responds st d h => subst h; simp [RpmUnchanged]
  | waits o h => subst h; simp [RpmUnchanged]

/-- Only READPAIR has an end that writes `HI`. -/
theorem RpmEnd.rpmUnchanged {i : Instr} {s t : State} (h : RpmEnd i s t) :
    RpmUnchanged s t ∧ ((∀ a, i ≠ .readPair a) → t.hi = s.hi) := by
  cases h with
  | written bytes _ h =>
    obtain ⟨hkept, hhi⟩ := h.rpmUnchanged
    exact ⟨by simpa [RpmUnchanged] using hkept, fun _ => by simpa using hhi⟩
  | read a _ h =>
    obtain ⟨hkept, hhi⟩ := h.rpmUnchanged
    exact ⟨by simpa [RpmUnchanged] using hkept, fun _ => by simpa using hhi⟩
  | readTwice a high hpair h =>
    obtain ⟨hkept, -⟩ := h.rpmUnchanged
    exact ⟨by simpa [RpmUnchanged] using hkept, fun hnot => absurd hpair (hnot a)⟩

/-- Settles O26, by the ends a register command can have. -/
theorem rpmFrame : Obligations.RpmFrame := by
  intro i s t hi hs he
  obtain ⟨⟨hidx, hports, hrem, haddr, hcmd, htimer, hparams, hfaults, hhost⟩, hhi⟩ := (exec_rpmEnd hs hi he).rpmUnchanged
  exact ⟨hidx, hports, hrem, haddr, hcmd, htimer, hparams, hfaults, hhost, hhi⟩

end Sys2Proof.Machine
end

section
/-! SUPPORT. Two runs of one register command, side by side: what earlier commands left in the block plays no part
(40_register_protocol.md R136). -/

namespace Sys2Proof.Machine

/-- The histories `events` and `events'` are `old` and `old'`, and then the same events. -/
def GrownAlike (old old' events events' : List Event) : Prop := ∃ es, events = old ++ es ∧ events' = old' ++ es

/-- The same event joins both. -/
theorem GrownAlike.snoc {old old' events events' : List Event} (h : GrownAlike old old' events events') (e : Event) :
    GrownAlike old old' (events ++ [e]) (events' ++ [e]) := by
  obtain ⟨es, rfl, rfl⟩ := h
  exact ⟨es ++ [e], List.append_assoc .., List.append_assoc ..⟩

/-- In the course of both commands, since the histories `old` and `old'`: whatever a register command reads is the same
in both states, and so are the events issued. -/
structure RunningAlike (old old' : List Event) (s s' : State) : Prop where
  quiet : Undisturbed s
  quiet' : Undisturbed s'
  exec : s.phase = .exec
  exec' : s'.phase = .exec
  devAddr : s.devAddr = s'.devAddr
  dev : s.dev = s'.dev
  draws : ∀ n, s.drawAt n = s'.drawAt n
  events : GrownAlike old old' s.events s'.events

/-- What O27 says of the two states that the commands leave. -/
def EndedAlike (old old' : List Event) (t t' : State) : Prop :=
  GrownAlike old old' t.events t'.events ∧ t.dev = t'.dev ∧ t.phase = t'.phase ∧
    (t.phase = .resp → t.rspStatus = t'.rspStatus ∧ t.rspData = t'.rspData)

namespace RunningAlike

variable {old old' : List Event} {s s' : State} (h : RunningAlike old old' s s')
include h

/-! ### The updates -/

theorem afterWrite (bytes : List Byte) : RunningAlike old old' (s.afterWrite bytes) (s'.afterWrite bytes) where
  quiet := h.quiet
  quiet' := h.quiet'
  exec := h.exec
  exec' := h.exec'
  devAddr := h.devAddr
  dev := by simp [h.dev, h.draws]
  draws n := by simp [h.draws]
  events := by simpa [h.devAddr, h.draws] using h.events.snoc _

theorem afterRead : RunningAlike old old' s.afterRead s'.afterRead where
  quiet := h.quiet
  quiet' := h.quiet'
  exec := h.exec
  exec' := h.exec'
  devAddr := h.devAddr
  dev := by simp [h.dev, h.draws]
  draws n := by simp [h.draws]
  events := by simpa [h.devAddr, h.dev, h.draws] using h.events.snoc _

theorem setHi (b : Byte) : RunningAlike old old' (s.setHi b) (s'.setHi b) := { h with }

/-! ### The endings -/

theorem respondNow (st : Status) (d : Half) : EndedAlike old old' (respondNow st d s) (respondNow st d s') :=
  ⟨h.events.snoc _, h.dev, rfl, fun _ => ⟨rfl, rfl⟩⟩

theorem respond (st : Status) (d : Half) : EndedAlike old old' (respond st d s) (respond st d s') := by
  rw [h.quiet.respond, h.quiet'.respond]
  exact h.respondNow st d

/-- There is no response to compare. -/
theorem hang (o o' : Outstanding) : EndedAlike old old' (hang o s) (hang o' s') :=
  ⟨h.events, h.dev, h.exec.trans h.exec'.symm, fun hresp => by simp [h.exec] at hresp⟩

/-! ### The transactions: both runs get the same answer -/

theorem busWrite {bytes : List Byte} {k k' : State → State}
    (hk : ∀ t t', RunningAlike old old' t t' → EndedAlike old old' (k t) (k' t')) :
    EndedAlike old old' (busWrite bytes s k) (busWrite bytes s' k') := by
  have hover := h.afterWrite bytes
  have hsame := congrArg drawWriteAnswer (h.draws 0)
  cases hw : drawWriteAnswer (s.drawAt 0) with
  | ok =>
    rw [busWrite_ok h.quiet.1 h.quiet.2 _ hw, busWrite_ok h.quiet'.1 h.quiet'.2 _ (hsame ▸ hw)]
    exact hk _ _ hover
  | fail =>
    rw [busWrite_fail h.quiet.1 h.quiet.2 _ hw, busWrite_fail h.quiet'.1 h.quiet'.2 _ (hsame ▸ hw)]
    exact hover.respondNow _ _
  | silent =>
    rw [busWrite_silent h.quiet.1 h.quiet.2 _ hw, busWrite_silent h.quiet'.1 h.quiet'.2 _ (hsame ▸ hw)]
    exact hover.hang _ _

theorem busRead {k k' : Byte → State → State}
    (hk : ∀ b t t', RunningAlike old old' t t' → EndedAlike old old' (k b t) (k' b t')) :
    EndedAlike old old' (busRead s k) (busRead s' k') := by
  have hover := h.afterRead
  have hsame : drawReadAnswer s.dev (s.drawAt 0) = drawReadAnswer s'.dev (s'.drawAt 0) := by rw [h.dev, h.draws]
  cases hr : drawReadAnswer s.dev (s.drawAt 0) with
  | ok b =>
    rw [busRead_ok h.quiet.1 h.quiet.2 hr, busRead_ok h.quiet'.1 h.quiet'.2 (hsame ▸ hr)]
    exact hk b _ _ hover
  | fail =>
    rw [busRead_fail h.quiet.1 h.quiet.2 hr, busRead_fail h.quiet'.1 h.quiet'.2 (hsame ▸ hr)]
    exact hover.respondNow _ _
  | silent =>
    rw [busRead_silent h.quiet.1 h.quiet.2 hr, busRead_silent h.quiet'.1 h.quiet'.2 (hsame ▸ hr)]
    exact hover.hang _ _

/-! ### The register commands -/

theorem exec_rpm {i : Instr} {t t' : State} (hi : isRpm i = true) (he : Machine.exec i s = .next t)
    (he' : Machine.exec i s' = .next t') : EndedAlike old old' t t' := by
  cases i with
  | select a =>
    obtain rfl := Host.Outcome.next.inj he
    obtain rfl := Host.Outcome.next.inj he'
    exact h.busWrite fun _ _ h => h.respond _ _
  | read a =>
    obtain rfl := Host.Outcome.next.inj he
    obtain rfl := Host.Outcome.next.inj he'
    exact h.busWrite fun _ _ h => h.busRead fun _ _ _ h => h.respond _ _
  | readPair a =>
    obtain rfl := Host.Outcome.next.inj he
    obtain rfl := Host.Outcome.next.inj he'
    exact h.busWrite fun _ _ h => h.busRead fun hi _ _ h => (h.setHi hi).busRead fun _ _ _ h => h.respond _ _
  | write a v =>
    obtain rfl := Host.Outcome.next.inj he
    obtain rfl := Host.Outcome.next.inj he'
    exact h.busWrite fun _ _ h => h.respond _ _
  | step u d c => simp [isRpm] at hi
  | emit u => simp [isRpm] at hi

end RunningAlike

/-- Settles O27, by carrying the likeness of the two states through the command. -/
theorem rpmForgetsThePast : Obligations.RpmForgetsThePast := by
  intro i s s' t t' hi hs hs' hexec hexec' haddr hdev hdraws he he'
  have hstart : RunningAlike s.events s'.events s s' :=
    ⟨hs, hs', hexec, hexec', haddr, hdev, hdraws, [], by simp, by simp⟩
  exact hstart.exec_rpm hi he he'

end Sys2Proof.Machine
end

section
/-! SUPPORT. The step sequencer commands that no reset disturbs, in closed form: where a STEP ends from any point of its
main phase, what one round of that phase does, and that no round changes where the STEP ends (41_step_sequencer.md R162
to R167). -/

namespace Sys2Proof.Machine

/-! ### Index arithmetic (R161, R165, R171) -/

theorem indexAfter_add (d : Direction) (i : SeqIndex) (m n : Nat) :
    indexAfter d (indexAfter d i m) n = indexAfter d i (m + n) := by
  cases d with
  | cw => simp [indexAfter, shiftIndex, BitVec.ofNat_add, BitVec.add_assoc]
  | ccw => simp [indexAfter, shiftIndex, BitVec.ofNat_add, BitVec.sub_sub]

/-- Only the count modulo 8 moves the index. -/
theorem indexAfter_congr {m n : Nat} (h : m % 8 = n % 8) (d : Direction) (i : SeqIndex) :
    indexAfter d i m = indexAfter d i n := by
  have hsame : BitVec.ofNat 3 m = BitVec.ofNat 3 n := BitVec.eq_of_toNat_eq (by simpa using h)
  rw [indexAfter, indexAfter, hsame]

/-- The same number of positions the other way leads back. -/
theorem indexAfter_opposite {d d' : Direction} (h : d ≠ d') (i : SeqIndex) (n : Nat) :
    indexAfter d' (indexAfter d i n) n = i := by
  cases d with
  | cw =>
    cases d' with
    | cw => exact absurd rfl h
    | ccw => exact BitVec.add_sub_cancel i _
  | ccw =>
    cases d' with
    | cw => exact BitVec.sub_add_cancel i _
    | ccw => exact absurd rfl h

/-! ### One round of the main phase taken off a STEP -/

theorem mainPhaseEvents_succ (u : UnitNo) (d : Direction) (i : SeqIndex) (q : Nat) :
    mainPhaseEvents u d i (q + 1) =
      emissionEvents u (indexAfter d i 3) ++ [.settle u] ++ mainPhaseEvents u d (indexAfter d i 3) q := by
  have hshift (k : Nat) : 3 + 3 * (k + 1) = 3 * (k + 1 + 1) := by omega
  simp [mainPhaseEvents, List.range_succ_eq_map, List.flatMap_map, indexAfter_add, hshift]

section
variable {c : StepCount} (hc : 3 ≤ c.toNat)
include hc

theorem toNat_sub_three : (c - 3).toNat = c.toNat - 3 := BitVec.toNat_sub_of_le hc

theorem div_three_eq_succ : c.toNat / 3 = (c - 3).toNat / 3 + 1 := by
  rw [toNat_sub_three hc]
  omega

theorem settleCount_round (d : Direction) : settleCount d c = settleCount d (c - 3) + 1 := by
  rw [settleCount, settleCount, div_three_eq_succ hc, Nat.add_right_comm]

theorem indexAfter_round (d : Direction) (i : SeqIndex) :
    indexAfter d (indexAfter d i 3) (c - 3).toNat = indexAfter d i c.toNat := by
  rw [indexAfter_add, toNat_sub_three hc, Nat.add_sub_cancel' hc]

theorem stepEvents_round (u : UnitNo) (d : Direction) (i : SeqIndex) :
    stepEvents u d i c =
      emissionEvents u (indexAfter d i 3) ++ [.settle u] ++ stepEvents u d (indexAfter d i 3) (c - 3) := by
  simp only [stepEvents, indexAfter_round hc, div_three_eq_succ hc, mainPhaseEvents_succ, List.append_assoc]

end

/-! ### Where a STEP ends -/

/-- The end of a STEP that has `REM` steps to go and a settle still running for `timer`: O31's next state, from any
point between two rounds of the main phase. -/
def stepEnd (u : UnitNo) (d : Direction) (s : State) : State :=
  { s with
    idx := s.idx.set u (indexAfter d (s.idxOf u) s.rem.toNat)
    phase := .resp
    rem := 0
    rspStatus := 0
    rspData := 0
    timer := 0
    ports := (s.ports.map (Port.age (s.timer + settleCount d s.rem * s.params.tSettle))).set u
      { written := rom (indexAfter d (s.idxOf u) s.rem.toNat)
        flushed := rom (indexAfter d (s.idxOf u) s.rem.toNat)
        driven := true
        duty := if d = .cw then none else some 0 }
    events := s.events ++ stepEvents u d (s.idxOf u) s.rem ++ [.respond .ok 0] }

/-! ### One emission, one round of the main phase -/

/-- After unit `u`'s index has been set to `i` and emitted, the settle that was still running having run out first. -/
def State.emittedAt (u : UnitNo) (i : SeqIndex) (s : State) : State :=
  { s with
    idx := s.idx.set u i
    timer := 0
    ports := (s.ports.map (Port.age s.timer)).set u
      { written := rom i, flushed := rom i, driven := true, duty := (Port.age s.timer (s.portOf u)).duty }
    events := s.events ++ emissionEvents u i }

/-- After one round of the main phase (R163): a jump of 3, its emission, and a settle that is still running. -/
def State.afterRound (u : UnitNo) (d : Direction) (s : State) : State :=
  ((s.emittedAt u (indexAfter d (s.idxOf u) 3)).afterSettle u).setRem (s.rem - 3)

theorem emission_setIdx_run {s : State} (hp : s.pendingReset = none) (u : UnitNo) (i : SeqIndex) (k : State → State) :
    emission u (s.setIdx u i) k = k (s.emittedAt u i) := by
  rw [emission_run (by simpa using hp)]
  simp [State.emittedAt, State.setIdx, emissionEvents, portOf_eq]

/-- EMIT's emission, at the index as it is. -/
theorem emission_unmoved_run {s : State} (hp : s.pendingReset = none) (u : UnitNo) (k : State → State) :
    emission u s k = k (s.emittedAt u (s.idxOf u)) := by
  have hstay : s.setIdx u (s.idxOf u) = s := by simp [State.setIdx, idxOf_eq]
  have hrun := emission_setIdx_run hp u (s.idxOf u) k
  rwa [hstay] at hrun

/-- Right after an emission no other settle is running. -/
theorem settle_emittedAt {s : State} (hp : s.pendingReset = none) (u : UnitNo) (i : SeqIndex) (k : State → State) :
    settle u (s.emittedAt u i) k = k ((s.emittedAt u i).afterSettle u) :=
  gate_still (s := s.emittedAt u i) hp rfl _

section
variable {s : State} (hp : s.pendingReset = none) (u : UnitNo) (d : Direction)

/-- What a round does is what the rest of the STEP then has less to do. -/
theorem stepEnd_afterRound (hrem : 3 ≤ s.rem.toNat) : stepEnd u d (s.afterRound u d) = stepEnd u d s := by
  have hidx (i : SeqIndex) : indexAfter d (indexAfter d i 3) (s.rem - 3#24).toNat = indexAfter d i s.rem.toNat :=
    indexAfter_round hrem d i
  have htime : s.timer + (s.params.tSettle + settleCount d (s.rem - 3#24) * s.params.tSettle) =
      s.timer + settleCount d s.rem * s.params.tSettle := by
    rw [settleCount_round hrem, Nat.succ_mul, Nat.add_comm s.params.tSettle]
    rfl
  simp [stepEnd, State.afterRound, State.emittedAt, idxOf_eq, map_set, hidx, stepEvents_round hrem, htime,
    -BitVec.toNat_sub]

include hp

theorem stepMain_succ (q : Nat) (k : State → State) :
    stepMain u d (q + 1) s k = stepMain u d q (s.afterRound u d) k := by
  rw [stepMain, State.moveIdx, emission_setIdx_run hp, settle_emittedAt hp]
  rfl

theorem stepRemainder_run (hrem : s.rem.toNat < 3) : stepRemainder u d s = stepEnd u d s := by
  have hq : s.rem.toNat / 3 = 0 := Nat.div_eq_of_lt hrem
  have hidx : shiftIndex d (s.idxOf u) (s.rem.setWidth 3) = indexAfter d (s.idxOf u) s.rem.toNat := by
    rw [indexAfter, BitVec.ofNat_toNat]
  rw [stepRemainder, State.moveIdx, hidx, emission_setIdx_run hp]
  cases d with
  | cw =>
    dsimp only
    rw [settle_emittedAt hp, gate_run (by exact hp)]
    simp [stepEnd, stepEvents, mainPhaseEvents, settleCount, hq, hp, respondNow, clearDuty, State.setPort, State.portOf,
      State.emittedAt, State.proceed, State.expire, State.afterSettle, Status.code, map_set]
  | ccw =>
    dsimp only
    rw [gate_still (by exact hp) rfl]
    simp [stepEnd, stepEvents, mainPhaseEvents, settleCount, hq, hp, respondNow, oweSettle, State.setPort, State.portOf,
      State.emittedAt, Status.code]

/-- The main phase and the remainder, by induction on the rounds. -/
theorem stepMain_stepRemainder {q : Nat} (hq : s.rem.toNat / 3 = q) :
    stepMain u d q s (stepRemainder u d) = stepEnd u d s := by
  induction q generalizing s with
  | zero => exact stepRemainder_run hp u d (by omega)
  | succ q ih =>
    have hrem : 3 ≤ s.rem.toNat := by omega
    have hleft : (s.afterRound u d).rem.toNat / 3 = q := by
      have := div_three_eq_succ hrem
      simp only [State.afterRound, setRem_rem]
      omega
    rw [stepMain_succ hp, ih (by exact hp) hleft, stepEnd_afterRound u d hrem]

end

/-- Settles O31: where a STEP ends, from its beginning. -/
theorem stepCompletes : Obligations.StepCompletes := by
  intro u d c s hs hu
  have hrun : stepMain u d (c.toNat / 3) ((checkDuty u s).setRem c) (stepRemainder u d) =
      stepEnd u d ((checkDuty u s).setRem c) := stepMain_stepRemainder (by simpa using hs.1) u d rfl
  have hfaults : (checkDuty u s).hostFaults =
      if dutyUnmet s.params.tSettle (s.portOf u) then s.hostFaults ++ [.settleTooSoon u] else s.hostFaults :=
    checkDuty_hostFaults u s
  rw [execStep_of_unit hu, hrun]
  simp [stepEnd, idxOf_eq, hfaults, hs.2]

/-- Settles O32: after the emission the response, and the settle duty if the port had not been driven since reset. -/
theorem emitCompletes : Obligations.EmitCompletes := by
  intro u s hs hu
  have hemitted : Undisturbed (s.emittedAt u (s.idxOf u)) := ⟨hs.1, rfl⟩
  rw [execEmit_of_unit hu, emission_unmoved_run hs.1, gate_still hemitted.1 hemitted.2]
  cases hdriven : (s.portOf u).driven with
  | true =>
    rw [if_pos rfl, respondNow_of_undisturbed hemitted]
    simp [State.emittedAt, emissionEvents, idxOf_eq, hs.2, Status.code]
  | false =>
    rw [if_neg Bool.false_ne_true, respondNow_of_undisturbed (by exact hemitted)]
    simp [State.emittedAt, oweSettle, State.setPort, portOf_eq, emissionEvents, idxOf_eq, hs.2, Status.code]

/-! ### The events of a STEP (R166) -/

theorem patternsOf_append (es es' : List Event) : patternsOf (es ++ es') = patternsOf es ++ patternsOf es' :=
  List.filterMap_append

theorem patternsOf_mainPhaseEvents (u : UnitNo) (d : Direction) (i : SeqIndex) (q : Nat) :
    patternsOf (mainPhaseEvents u d i q) = (List.range q).map fun k => rom (indexAfter d i (3 * (k + 1))) := by
  simp [patternsOf, mainPhaseEvents, emissionEvents, List.filterMap_flatMap, List.map_eq_flatMap]

theorem patternsOf_stepEvents (u : UnitNo) (d : Direction) (i : SeqIndex) (c : StepCount) :
    patternsOf (stepEvents u d i c) =
      ((List.range (c.toNat / 3)).map fun k => rom (indexAfter d i (3 * (k + 1)))) ++ [rom (indexAfter d i c.toNat)] := by
  have hlast (j : SeqIndex) : patternsOf (emissionEvents u j) = [rom j] := rfl
  have hsettle : patternsOf (if d = .cw then [.settle u] else []) = [] := by cases d <;> rfl
  simp only [stepEvents, patternsOf_append, patternsOf_mainPhaseEvents, hlast, hsettle, List.append_nil]

/-- An event that each round of the main phase has once. -/
theorem countP_mainPhaseEvents {p : Event → Bool} {u : UnitNo}
    (hp : ∀ j, (emissionEvents u j ++ [Event.settle u]).countP p = 1) (d : Direction) (i : SeqIndex) (q : Nat) :
    (mainPhaseEvents u d i q).countP p = q := by
  simp only [mainPhaseEvents, List.countP_flatMap, Function.comp_def, hp, List.map_const', List.sum_replicate,
    List.length_range, smul_eq_mul, Nat.mul_one]

theorem countP_isFlush_stepEvents (u : UnitNo) (d : Direction) (i : SeqIndex) (c : StepCount) :
    (stepEvents u d i c).countP isFlush = c.toNat / 3 + 1 := by
  have hmain := countP_mainPhaseEvents (p := isFlush) (u := u) (fun _ => rfl) d i (c.toNat / 3)
  have hlast (j : SeqIndex) : (emissionEvents u j).countP isFlush = 1 := rfl
  have hsettle : (if d = .cw then [Event.settle u] else []).countP isFlush = 0 := by cases d <;> rfl
  rw [stepEvents, List.countP_append, List.countP_append, hmain, hlast, hsettle]

theorem countP_isSettle_stepEvents (u : UnitNo) (d : Direction) (i : SeqIndex) (c : StepCount) :
    (stepEvents u d i c).countP isSettle = settleCount d c := by
  have hmain := countP_mainPhaseEvents (p := isSettle) (u := u) (fun _ => rfl) d i (c.toNat / 3)
  have hlast (j : SeqIndex) : (emissionEvents u j).countP isSettle = 0 := rfl
  have hsettle : (if d = .cw then [Event.settle u] else []).countP isSettle = if d = .cw then 1 else 0 := by
    cases d <;> rfl
  rw [stepEvents, List.countP_append, List.countP_append, hmain, hlast, hsettle, settleCount, Nat.add_zero]

/-- A STEP has no bus event. -/
theorem request_of_mem_stepEvents {u : UnitNo} {d : Direction} {i : SeqIndex} {c : StepCount} {e : Event}
    (he : e ∈ stepEvents u d i c) : e.request = none := by
  have hemission (j : SeqIndex) (h : e ∈ emissionEvents u j) : e.request = none := by
    rcases List.mem_pair.1 h with rfl | rfl <;> rfl
  have hsettle (h : e ∈ [Event.settle u]) : e.request = none := by
    obtain rfl := List.mem_singleton.1 h
    rfl
  simp only [stepEvents, mainPhaseEvents, List.mem_append, List.mem_flatMap] at he
  rcases he with (⟨k, -, hround | hwait⟩ | hlast) | hend
  · exact hemission _ hround
  · exact hsettle hwait
  · exact hemission _ hlast
  · cases d with
    | cw => exact hsettle hend
    | ccw => exact absurd hend List.not_mem_nil

/-- Settles O33, from the events of the exact next state: the response after them adds to none of the counts. -/
theorem stepEventCounts : Obligations.StepEventCounts := by
  intro u d c s t hs hu he
  rw [stepCompletes u d c s hs hu] at he
  obtain rfl := Host.Outcome.next.inj he
  refine ⟨stepEvents u d (s.idxOf u) c ++ [.respond .ok 0], List.append_assoc .., ?_, ?_, ?_⟩
  · rw [patternsOf_append, patternsOf_stepEvents]
    exact List.append_nil _
  · rw [List.countP_append, countP_isFlush_stepEvents]
    rfl
  · rw [List.countP_append, countP_isSettle_stepEvents]
    cases d <;> rfl

/-! ### The indices (R165) -/

/-- After a STEP the block can run the next one undisturbed, from the index the count leads to. -/
theorem exec_step_idx {u : UnitNo} {d : Direction} {c : StepCount} {s t : State} (hs : Undisturbed s)
    (hu : s.hasUnit u = true) (he : exec (.step u d c) s = .next t) :
    t.idx = s.idx.set u (indexAfter d (s.idxOf u) c.toNat) ∧ Undisturbed t ∧ t.hasUnit u = true := by
  rw [stepCompletes u d c s hs hu] at he
  obtain rfl := Host.Outcome.next.inj he
  exact ⟨rfl, hs, hu⟩

/-- Settles O34, by the arithmetic of the index. -/
theorem stepThereAndBack : Obligations.StepThereAndBack := by
  constructor
  · intro u d c c' s t t' hs hu hc he he'
    obtain ⟨hidx, -, -⟩ := exec_step_idx hs hu he
    obtain ⟨hidx', -, -⟩ := exec_step_idx hs hu he'
    rw [hidx, hidx', indexAfter_congr hc]
  · intro u d d' c s t r hs hu hd he he'
    obtain ⟨hthere, ht, hut⟩ := exec_step_idx hs hu he
    obtain ⟨hback, -, -⟩ := exec_step_idx ht hut he'
    simp [hback, hthere, idxOf_eq, indexAfter_opposite hd]

/-! ### What a STEP or EMIT leaves alone (R160, R169) -/

/-- A refused command moves no unit. -/
theorem raiseIllegal_unitUnmoved {s : State} (hs : Undisturbed s) (v : UnitNo) : UnitUnmoved v s (raiseIllegal s) := by
  rw [raiseIllegal_of_undisturbed hs]
  exact ⟨rfl, _, rfl⟩

section
variable {u v : UnitNo} (hv : v ≠ u) {s t : State} (hs : Undisturbed s)
include hv hs

theorem exec_step_unitUnmoved {d : Direction} {c : StepCount} (he : exec (.step u d c) s = .next t) :
    UnitUnmoved v s t := by
  cases hu : s.hasUnit u with
  | false =>
    obtain rfl := Host.Outcome.next.inj ((execStep_of_no_unit hu d c).symm.trans he)
    exact raiseIllegal_unitUnmoved hs v
  | true =>
    obtain rfl := Host.Outcome.next.inj ((stepCompletes u d c s hs hu).symm.trans he)
    exact ⟨get_set_ne _ hv _, _, (get_set_ne _ hv _).trans (get_map _ _ _)⟩

theorem exec_emit_unitUnmoved (he : exec (.emit u) s = .next t) : UnitUnmoved v s t := by
  cases hu : s.hasUnit u with
  | false =>
    obtain rfl := Host.Outcome.next.inj ((execEmit_of_no_unit hu).symm.trans he)
    exact raiseIllegal_unitUnmoved hs v
  | true =>
    obtain rfl := Host.Outcome.next.inj ((emitCompletes u s hs hu).symm.trans he)
    exact ⟨rfl, _, get_set_ne _ hv _⟩

end

/-- Settles O35: every other unit is unmoved. -/
theorem unitsAreIndependent : Obligations.UnitsAreIndependent := by
  intro u v d c s t hv hs he
  have hunmoved : UnitUnmoved v s t := he.elim (exec_step_unitUnmoved hv hs) (exec_emit_unitUnmoved hv hs)
  obtain ⟨hidx, x, hport⟩ := hunmoved
  simp [idxOf_eq, portOf_eq, hidx, hport]

/-- Settles O36, from the two exact next states. -/
theorem seqFrame : Obligations.SeqFrame := by
  intro u d c s t hs hu he
  rcases he with he | he
  · rw [stepCompletes u d c s hs hu] at he
    obtain rfl := Host.Outcome.next.inj he
    refine ⟨rfl, fun _ => rfl, rfl, rfl, rfl, rfl, rfl, rfl, rfl, hs.2, rfl, rfl, rfl, _, List.append_assoc .., ?_⟩
    intro e hmem
    rcases List.mem_append.1 hmem with hstep | hresponse
    · exact request_of_mem_stepEvents hstep
    · obtain rfl := List.mem_singleton.1 hresponse
      rfl
  · rw [emitCompletes u s hs hu] at he
    obtain rfl := Host.Outcome.next.inj he
    exact ⟨rfl, fun _ => rfl, rfl, rfl, rfl, rfl, rfl, rfl, rfl, hs.2, rfl, rfl, rfl, _, rfl, by simp [Event.request]⟩

/-! ### The transition table (R168) -/

/-- Settles O38: 48 cells, evaluated. -/
theorem transitionTable : Obligations.TransitionTable := by
  unfold Obligations.TransitionTable
  decide

end Sys2Proof.Machine
end

section
/-! SUPPORT. A host call on a ready block, and the calls of the reference device (48_host_operations.md R190 to R198,
R204). -/

namespace Sys2Proof.Machine

/-- What precedes a register command's first event, with no reset to come, is that the settle timer runs out. -/
theorem exec_firstBytes_expire {i : Instr} {bytes : List Byte} (h : firstBytes i = some bytes) {s : State}
    (hp : s.pendingReset = none) : exec i s = exec i s.expire := by
  obtain ⟨k, hk⟩ := exec_of_firstBytes h
  have hquiet : s.proceed none = s.expire := by cases s; cases hp; rfl
  have hgate : ∀ f, gate s f = gate s.expire f := fun f => by rw [gate_run hp, hquiet, gate_still (s := s.expire) hp rfl]
  rw [hk, hk, busWrite, hgate, ← busWrite]

end Sys2Proof.Machine

namespace Sys2Proof.HostRef

open Sys2Proof.Machine

/-! ### One call (R190 a) -/

/-- The block that has accepted the host's command `i` from `s`: no time has passed and no reset is announced. -/
def accepted (i : Instr) (s : State) : State :=
  { s with host := [], cmd := encode i, phase := .exec, pendingReset := none }

/-- The block that has given the response `d` and had it taken by the host. -/
def answered (d : Half) (s : State) : State := { respondNow .ok d s with host := [], phase := .idle }

@[simp] theorem drawAt_accepted (i : Instr) (s : State) (n : Nat) : (accepted i s).drawAt n = s.drawAt n := rfl
@[simp] theorem answered_phase (d : Half) (s : State) : (answered d s).phase = .idle := rfl
@[simp] theorem answered_dev (d : Half) (s : State) : (answered d s).dev = s.dev := rfl
@[simp] theorem drawAt_answered (d : Half) (s : State) (n : Nat) : (answered d s).drawAt n = s.drawAt n := rfl

/-- A settle that still runs when a register command is accepted has run out before its first event. -/
theorem exec_accepted {i : Instr} {bytes : List Byte} (h : firstBytes i = some bytes) (s : State) :
    exec i (accepted i s) = exec i (accepted i s).expire := exec_firstBytes_expire h rfl

theorem undisturbed_accepted_expire (i : Instr) (s : State) : Undisturbed (accepted i s).expire := ⟨rfl, rfl⟩

theorem arrive_accept_present (i : Instr) (s : State) :
    (State.arrive { s with host := [present i] }).accept (present i) = accepted i s := by
  simp [State.arrive, State.accept, State.inputs, present, accepted, announcedReset, Device.update]

section
variable {i : Instr} {s t : State} (hidle : s.phase = .idle) (hwf : i.wellFormed s.params.nSeq = true)
include hidle hwf

/-- A well-formed command presented to a ready block is run. -/
theorem advance_present (he : exec i (accepted i s) = .next t) : advance (present i) s = t := by
  have hdecode : decode (accepted i s).params.nSeq (accepted i s).cmd = .ok i := decodeOfEncode s.params.nSeq i hwf
  have hstep : step { s with host := [present i] } = .next t := by
    calc step { s with host := [present i] }
      _ = runAccepted ((State.arrive { s with host := [present i] }).accept (present i)) :=
        step_of_presented (s := { s with host := [present i] }) nofun hidle rfl
      _ = exec i (accepted i s) := by rw [arrive_accept_present, runAccepted_of_legal hdecode]
      _ = .next t := he
  rw [advance, hstep]

/-- A command that responds OK gives its data to what follows the call. -/
theorem call_of_ok {d : Half} (he : exec i (accepted i s) = .next (respondNow .ok d t)) {α : Type}
    (k : Half → State → HostResult α) : call i s k = k d (answered d t) := by
  have hrun : advance (present i) (takeWaiting s) = respondNow .ok d t := by
    rw [takeWaiting_of_not_resp (by simp [hidle]), advance_present hidle hwf he]
  have htake : advance { rspReady := true } (respondNow .ok d t) = answered d t :=
    takeWaiting_of_resp (respondNow_phase .ok d t)
  simp only [call, hrun, htake, respondNow_phase, respondNow_rspStatus, respondNow_rspData, ofCode_code, if_true]

end

/-! ### Calls that the reference device answers (20_memory.md R76) -/

theorem afterWrite_accepted_dev {s : State} (h0 : s.drawAt 0 = .reference) (i : Instr) (bytes : List Byte) :
    (State.afterWrite bytes (accepted i s).expire).dev = s.dev.onWrite bytes :=
  afterWrite_dev_of_reference (s := (accepted i s).expire) h0 bytes

section
variable {s : State} (hidle : s.phase = .idle) (h0 : s.drawAt 0 = .reference)
include hidle h0

theorem call_write_reference (a v : Byte) {α : Type} (k : Half → State → HostResult α) :
    call (.write a v) s k = k 0 (answered 0 ((accepted (.write a v) s).expire.afterWrite [a, v])) := by
  refine call_of_ok hidle rfl ?_ k
  rw [exec_accepted rfl]
  exact exec_write_reference (undisturbed_accepted_expire _ s) h0 a v

theorem call_read_reference (h1 : s.drawAt 1 = .reference) (a : Byte) {α : Type} (k : Half → State → HostResult α) :
    call (.read a) s k = k (zext16 (s.dev.reg a))
      (answered (zext16 (s.dev.reg a)) ((accepted (.read a) s).expire.afterWrite [a]).afterRead) := by
  refine call_of_ok hidle rfl ?_ k
  rw [exec_accepted rfl]
  exact exec_read_reference (undisturbed_accepted_expire _ s) h0 h1 a

end

/-! ### The accelerometer's range and sensitivity (R191, R195) -/

/-- Each range code halves the sensitivity. -/
theorem accelSens_eq_shiftRight (c : BitVec 2) : accelSens c = 16384 >>> c.toNat := by
  revert c
  decide

/-- Bits [4:3] give back the code that was set, and code 0 where it was out of range. -/
theorem rangeCode_rangeByte (code : Int) :
    (rangeCode (zext16 (rangeByte code))).toNat = if 0 ≤ code ∧ code ≤ 3 then code.toNat else 0 := by
  by_cases h : 0 ≤ code ∧ code ≤ 3
  · obtain ⟨hlow, hhigh⟩ := h
    interval_cases code <;> decide
  · rw [rangeByte, if_neg h, if_neg h]
    decide

theorem accelSens_rangeByte (code : Int) :
    accelSens (rangeCode (zext16 (rangeByte code))) = if 0 ≤ code ∧ code ≤ 3 then 16384 >>> code.toNat else 16384 := by
  rw [accelSens_eq_shiftRight, rangeCode_rangeByte]
  split <;> rfl

/-- SETACCELRANGE stores the code's byte. -/
theorem setAccelRange_reference {s : State} (hidle : s.phase = .idle) (h0 : s.drawAt 0 = .reference) (h : HostParams)
    (code : Int) : ∃ t, setAccelRange h code s = .value () t ∧ t.phase = .idle ∧
      t.dev.reg h.regs.accelCfg = rangeByte code ∧ ∀ n, t.drawAt n = s.drawAt (n + 1) := by
  refine ⟨_, call_write_reference hidle h0 _ _ done, answered_phase _ _, ?_, fun n => by simp⟩
  rw [answered_dev, afterWrite_accepted_dev h0, onWrite_two, reg_with_ptr, reg_setReg, if_pos rfl]

/-- GETACCELSENS reads the live code. -/
theorem getAccelSens_reference {s : State} (hidle : s.phase = .idle) (h0 : s.drawAt 0 = .reference)
    (h1 : s.drawAt 1 = .reference) (h : HostParams) : ∃ r, ∀ {α : Type} (k : Nat → State → HostResult α),
      getAccelSens h s k = k (accelSens (rangeCode (zext16 (s.dev.reg h.regs.accelCfg)))) r :=
  ⟨_, fun _ => call_read_reference hidle h0 h1 _ _⟩

/-- Settles O54: the register that the first call wrote is the one that the second call reads. -/
theorem accelSensitivityAfterRange : Obligations.AccelSensitivityAfterRange := by
  intro h code s hidle href
  obtain ⟨t, hset, htidle, hreg, hdraw⟩ := setAccelRange_reference hidle (href 0 (by decide)) h code
  have h1 : t.drawAt 0 = .reference := (hdraw 0).trans (href 1 (by decide))
  have h2 : t.drawAt 1 = .reference := (hdraw 1).trans (href 2 (by decide))
  obtain ⟨r, hget⟩ := getAccelSens_reference htidle h1 h2 h
  exact ⟨t, r, hset, by rw [hget, hreg, accelSens_rangeByte]⟩

/-! ### The converted acceleration (R198) -/

theorem accelSens_ge (c : BitVec 2) : 2048 ≤ accelSens c := by
  revert c
  decide

theorem natAbs_s16_le (raw : Half) : (s16 raw).natAbs ≤ 32768 := by
  have hlow := BitVec.le_toInt raw
  have hhigh := BitVec.toInt_lt (x := raw)
  rw [s16]
  omega

/-- Truncation divides magnitudes, so a bound on the sample and on the sensitivity bounds the result. -/
theorem natAbs_accValue (raw : Int) (sens : Nat) : (accValue raw sens).natAbs = raw.natAbs * 981 / sens := by
  rw [accValue, Int.natAbs_tdiv, Int.natAbs_mul]
  rfl

/-- Settles O55: the largest magnitude is that of the sample -32768 at the smallest sensitivity, 2048. -/
theorem accelerationFits : Obligations.AccelerationFits := by
  intro raw c
  have hmagnitude : (accValue (s16 raw) (accelSens c)).natAbs ≤ 15696 :=
    calc (accValue (s16 raw) (accelSens c)).natAbs
      _ = (s16 raw).natAbs * 981 / accelSens c := natAbs_accValue _ _
      _ ≤ 32768 * 981 / 2048 :=
        Nat.div_le_div (Nat.mul_le_mul_right 981 (natAbs_s16_le raw)) (accelSens_ge c) (by decide)
      _ = 15696 := rfl
  omega

/-! ### One motor's decision (R204) -/

section
variable {dz : Nat} {raw : Int} (u : UnitNo)

theorem controlCommand_above (h : raw > dz) : controlCommand dz u raw = some (.step u .ccw 1) := if_pos h

theorem controlCommand_below (h : raw < -(dz : Int)) : controlCommand dz u raw = some (.step u .cw 1) := by
  rw [controlCommand, if_neg (by omega), if_pos h]

theorem controlCommand_inside (h : -(dz : Int) ≤ raw ∧ raw ≤ dz) : controlCommand dz u raw = none := by
  rw [controlCommand, if_neg (by omega), if_neg (by omega)]

end

/-- Settles O56: the sample lies above, below or inside the deadzone, and the three decisions differ. -/
theorem controlCommandStrict : Obligations.ControlCommandStrict := by
  intro dz u raw
  have hcases : raw > dz ∨ raw < -(dz : Int) ∨ (-(dz : Int) ≤ raw ∧ raw ≤ dz) := by omega
  rcases hcases with habove | hbelow | hinside
  · rw [controlCommand_above u habove]
    exact ⟨iff_of_true rfl habove, iff_of_false (by simp) (by omega), iff_of_false (by simp) (by omega)⟩
  · rw [controlCommand_below u hbelow]
    exact ⟨iff_of_false (by simp) (by omega), iff_of_true rfl hbelow, iff_of_false (by simp) (by omega)⟩
  · rw [controlCommand_inside u hinside]
    exact ⟨iff_of_false (by simp) (by omega), iff_of_false (by simp) (by omega), iff_of_true rfl hinside⟩

end Sys2Proof.HostRef
end

section
/-! SUPPORT. The outcome of a command is its response (60_exceptions.md R230, R231): every step answers a next state, and
a response that a step issues stands in the response registers after it. -/

namespace Sys2Proof.Machine

/-! ### No step stops the machine (60_exceptions.md R230, R234) -/

theorem exec_answers_next (i : Instr) (s : State) : ∃ t, exec i s = .next t := by
  cases i with
  | select a => exact ⟨_, rfl⟩
  | read a => exact ⟨_, rfl⟩
  | readPair a => exact ⟨_, rfl⟩
  | write a v => exact ⟨_, rfl⟩
  | step u d c => exact ⟨_, rfl⟩
  | emit u => exact ⟨_, rfl⟩

theorem runAccepted_answers_next (s : State) : ∃ t, runAccepted s = .next t := by
  cases hd : decode s.params.nSeq s.cmd with
  | ok i => exact runAccepted_of_legal hd ▸ exec_answers_next i s
  | error x => exact ⟨_, runAccepted_of_illegal hd⟩

/-- Settles O9, by the branches of a step: only an accepted word is run, and it answers too. -/
theorem everyStepAnswersNext : Obligations.EveryStepAnswersNext := by
  intro s
  by_cases hr : s.inputs.rst = .high
  · exact ⟨_, step_of_reset hr⟩
  by_cases hp : s.phase = .idle
  · cases hv : s.inputs.cmdValid with
    | true => exact step_of_presented hr hp hv ▸ runAccepted_answers_next _
    | false => exact ⟨_, step_of_nothing_presented hr hp hv⟩
  · rcases step_of_not_idle hr hp with hwait | htaken
    · exact ⟨_, hwait⟩
    · exact ⟨_, htaken⟩

/-! ### The response registers (60_exceptions.md R231, 10_state.md R36) -/

theorem Grown.imp {p q : Event → Prop} {old events : List Event} (hpq : ∀ e, p e → q e) (h : Grown p old events) :
    Grown q old events := by
  obtain ⟨es, hes, hall⟩ := h
  exact ⟨es, hes, fun e he => hpq e (hall e he)⟩

/-- Whatever events are said to have joined the history, they have `p`. -/
theorem Grown.of_mem {p : Event → Prop} {old events es : List Event} (h : Grown p old events) (hes : events = old ++ es)
    {e : Event} (he : e ∈ es) : p e := by
  obtain ⟨es', rfl, hall⟩ := h
  exact hall e (List.append_cancel_left hes ▸ he)

/-- If the event is a response, the response registers of `t` hold it, and its data is 0 unless it is OK. -/
def StandsIn (t : State) (e : Event) : Prop :=
  ∀ st d, e = .respond st d → t.rspStatus = st.code ∧ t.rspData = d ∧ (st ≠ .ok → d = 0)

/-- Since the history was `old`, only events that stand in the response registers have joined it. -/
def ResponsesStand (old : List Event) (t : State) : Prop := Grown (StandsIn t) old t.events

/-- In the course of a command: since the history was `old`, no response has joined it. -/
def NotYetResponded (old : List Event) (s : State) : Prop := Grown (fun e => isRespond e = false) old s.events

theorem standsIn_of_no_response {e : Event} (h : isRespond e = false) (t : State) : StandsIn t e := by
  rintro st d rfl
  cases h

theorem standsIn_respondNow (s : State) {st : Status} {d : Half} (hd : st ≠ .ok → d = 0) :
    StandsIn (respondNow st d s) (.respond st d) := by
  intro st' d' he
  obtain ⟨rfl, rfl⟩ := Event.respond.inj he
  exact ⟨rfl, rfl, hd⟩

namespace NotYetResponded

variable {old : List Event} {s : State}

/-- Without a response nothing is asked of the registers: a reset or a hang ends the command so. -/
theorem stand {t : State} (h : NotYetResponded old s) (ht : t.events = s.events) : ResponsesStand old t := by
  unfold ResponsesStand
  rw [ht]
  exact h.imp fun _ he => standsIn_of_no_response he t

/-- The response is the last event of a command, so the registers still hold it. -/
theorem respondNow (h : NotYetResponded old s) {st : Status} {d : Half} (hd : st ≠ .ok → d = 0) :
    ResponsesStand old (respondNow st d s) :=
  (h.imp fun _ he => standsIn_of_no_response he _).snoc (standsIn_respondNow s hd)

theorem carries : Carries (NotYetResponded old) (ResponsesStand old) where
  due _ _ h _ := h.stand rfl
  nearer _ _ _ h _ := h
  quiet _ h _ := h

theorem rpmCarries : RpmCarries (NotYetResponded old) (ResponsesStand old) where
  toCarries := carries
  write _ _ h _ := h.snoc rfl
  read _ h _ := h.snoc rfl
  setHi _ _ h := h
  respond _ _ _ h _ hd := h.respondNow hd
  hangWrite s bytes _ h _ _ _ := stand (s := s.afterWrite bytes) (h.snoc rfl) rfl
  hangRead s _ h _ _ := stand (s := s.afterRead) (h.snoc rfl) rfl

theorem stepCarries (u : UnitNo) : StepCarries u (NotYetResponded old) (ResponsesStand old) :=
  have hemission : Keeps (NotYetResponded old) (ResponsesStand old) (emission u) :=
    carries.emission (fun _ _ h => h.snoc rfl) fun _ h => h.snoc rfl
  { toCarries := carries
    emission := hemission
    settle := fun _ h => h.snoc rfl
    setDuty := fun _ _ h => h
    shiftedEmission := fun _ _ s k h hk => hemission (s.moveIdx u _ _) k h hk
    setRem := fun _ _ h => h
    checkDuty := fun s h => by simpa [NotYetResponded] using h }

theorem runAccepted {t : State} (h : NotYetResponded old s) (hrun : runAccepted s = .next t) : ResponsesStand old t := by
  rcases runAccepted_cases hrun with ⟨i, _, hi, he⟩ | ⟨u, d, c, _, hu, he⟩ | ⟨u, hu, he⟩ | rfl
  · exact rpmCarries.exec hi h he
  · exact (stepCarries u).execStep (fun _ h _ _ => h.respondNow nofun) hu h he
  · exact (stepCarries u).execEmit (fun _ h _ => h.respondNow nofun) hu h he
  · exact rpmCarries.illegal h

end NotYetResponded

/-- By the branches of a step: only an accepted command adds events. -/
theorem step_responsesStand {s t : State} (hstep : step s = .next t) : ResponsesStand s.events t := by
  have hnone : NotYetResponded s.events s := .refl _ _
  rcases step_cases hstep with ⟨_, rfl⟩ | ⟨_, _, _, hrun⟩ | ⟨_, _, _, rfl⟩ | ⟨_, _, rfl⟩
  · exact hnone.stand rfl
  · exact NotYetResponded.runAccepted (s := s.arrive.accept s.inputs) hnone hrun
  · exact hnone.stand rfl
  · exact hnone.stand rfl

/-- Settles O15, by carrying "no response yet" through the command up to its one response. -/
theorem responseStatusesAndData : Obligations.ResponseStatusesAndData := by
  refine ⟨⟨rfl, rfl, rfl⟩, fun s t es st d hstep hes hmem => ?_⟩
  exact (step_responsesStand hstep).of_mem hes hmem st d rfl

end Sys2Proof.Machine
end

section
/-! SUPPORT. The settle duty of the host (70_reset_and_hazards.md R266, R267), and a step with `rst` high (R260, R261,
R265). -/

namespace Sys2Proof.Machine

/-! ### The settle duty (R266, R267) -/

/-- A duty is unmet when less than `T_SETTLE` has passed since it began (R266). -/
theorem dutyUnmet_eq_true {tSettle : Nat} {p : Port} :
    dutyUnmet tSettle p = true ↔ ∃ k, p.duty = some k ∧ k < tSettle := by
  cases hp : p.duty with
  | none => simp [dutyUnmet, hp]
  | some k => simp [dutyUnmet, hp]

section
variable {u : UnitNo} {c : StepCount} {s t : State} (hs : Undisturbed s) (hu : s.hasUnit u = true)
include hs hu

/-- What a STEP records of the settle duty it was accepted under (R267). -/
theorem exec_step_hostFaults {d : Direction} (he : exec (.step u d c) s = .next t) :
    t.hostFaults = if ∃ k, (s.portOf u).duty = some k ∧ k < s.params.tSettle then s.hostFaults ++ [.settleTooSoon u]
      else s.hostFaults := by
  obtain rfl := Host.Outcome.next.inj ((stepCompletes u d c s hs hu).symm.trans he)
  simp only [dutyUnmet_eq_true]

/-- A counter-clockwise STEP leaves a settle duty that begins with its response (R266). -/
theorem exec_step_ccw_duty (he : exec (.step u .ccw c) s = .next t) :
    t.params = s.params ∧ (t.portOf u).duty = some 0 := by
  obtain rfl := Host.Outcome.next.inj ((stepCompletes u .ccw c s hs hu).symm.trans he)
  exact ⟨rfl, by simp [portOf_eq]⟩

end

/-- Settles O40: both next states are the exact one of a STEP, which reads the duty for the record alone. -/
theorem settleBreachOnlyRecorded : Obligations.SettleBreachOnlyRecorded := by
  intro u d c x s t t' hs hu he he'
  have hfaults := exec_step_hostFaults (s := s.setPort u _) hs hu he'
  constructor
  · obtain rfl := Host.Outcome.next.inj ((stepCompletes u d c s hs hu).symm.trans he)
    obtain rfl := Host.Outcome.next.inj ((stepCompletes u d c (s.setPort u _) hs hu).symm.trans he')
    simp [idxOf_eq, map_set]
  · cases x with
    | none => simpa [portOf_eq] using hfaults
    | some k => simpa [portOf_eq] using hfaults

/-- Settles O41: the first STEP leaves the duty at 0, and it is `wait` old when the next STEP is accepted. -/
theorem settleDutyAfterCounterclockwise : Obligations.SettleDutyAfterCounterclockwise := by
  intro u d c c' wait s t r hs hu he he'
  obtain ⟨-, ht, hut⟩ := exec_step_idx hs hu he
  obtain ⟨hparams, hduty⟩ := exec_step_ccw_duty hs hu he
  have hwaited : ((t.elapse wait).portOf u).duty = some wait := by
    simp [portOf_eq, Port.age, show (t.ports.get u).duty = some 0 from hduty]
  have hfaults := exec_step_hostFaults (s := t.elapse wait) ht hut he'
  simp only [hwaited, elapse_params, hparams, elapse_hostFaults, Option.some.injEq, exists_eq_left'] at hfaults
  exact ⟨fun hsoon => hfaults.trans (if_pos hsoon), fun hlate => hfaults.trans (if_neg (Nat.not_lt.2 hlate))⟩

/-! ### A step with `rst` high (R260, R261) -/

/-- Settles O43: the step is a reset, and the outputs are read off the state it leaves. -/
theorem resetSetsEveryRegister : Obligations.ResetSetsEveryRegister := by
  intro s hrst
  refine ⟨_, step_of_reset hrst, rfl, get_zero_idx, rfl, rfl, rfl, rfl, rfl, rfl, rfl, rfl, ?_, rfl, rfl, rfl⟩
  exact ⟨rfl, rfl, rfl, rfl⟩

/-- Settles O44: a reset changes neither the history nor the device, and of a port only what is known of it. -/
theorem resetIssuesNoEvent : Obligations.ResetIssuesNoEvent := by
  intro s hrst
  refine ⟨_, step_of_reset hrst, rfl, rfl, fun hstill => ?_, fun u => ?_⟩
  · rw [resetBlock_dev, arrive_dev, hstill]
    rfl
  · simp [portOf_eq]

/-! ### The first emission after reset (R265) -/

/-- Settles O47: EMIT's exact next state, from a block whose index is 0. -/
theorem emitAfterResetDrivesFirstPattern : Obligations.EmitAfterResetDrivesFirstPattern := by
  intro u a s hu
  have hfirst : rom ((resetBlock a s).idxOf u) = 1 := by
    rw [idxOf_eq, resetBlock_idx, get_zero_idx]
    rfl
  refine ⟨_, emitCompletes u (resetBlock a s) ⟨rfl, rfl⟩ hu, ?_, ?_⟩
  · simp [hfirst]
  · simp [portOf_eq, hfirst]

end Sys2Proof.Machine
end

section
/-! SUPPORT. A reset that rises in the course of a command (70_reset_and_hazards.md R262), by comparing the command with
its own run when no reset comes: before each of that run's events the reset may end it, and past the last it is dropped
(log 11). -/

namespace Sys2Proof.Machine

/-- The same state with a reset to `a` announced for after `n` more events. -/
def State.resetAfter (n : Nat) (a : BusAddr) (s : State) : State := { s with pendingReset := some (n, a) }

/-- The same state with no reset announced. -/
def State.withoutReset (s : State) : State := { s with pendingReset := none }

theorem resetAfter_withoutReset {s : State} {n : Nat} {a : BusAddr} (hs : s.pendingReset = some (n, a)) :
    s.withoutReset.resetAfter n a = s := by
  simp [State.resetAfter, State.withoutReset, ← hs]

/-- `r` is the end of a run with no reset, begun with the history `old`, and `cut n a` the end of the same run with a
reset to `a` after `n` events: the reset falls before one of the run's events, or it comes too late to change anything. -/
def Interrupted (old : List Event) (r : State) (cut : Nat → BusAddr → State) : Prop :=
  ∃ es, r.events = old ++ es ∧ ∀ n a,
    (n < es.length → ∃ m, cut n a = resetBlock a m ∧ m.events = old ++ es.take n) ∧
    (es.length ≤ n → cut n a = r)

/-- `run`, what is left of a command, is cut short by a reset before any of its events, and by no other reset. -/
def Interruptible (run : State → State) : Prop :=
  ∀ s, s.pendingReset = none → Interrupted s.events (run s) fun n a => run (s.resetAfter n a)

@[simp] theorem drawAt_resetAfter (n m : Nat) (a : BusAddr) (s : State) :
    (s.resetAfter n a).drawAt m = s.drawAt m := rfl
@[simp] theorem resetAfter_dev (n : Nat) (a : BusAddr) (s : State) : (s.resetAfter n a).dev = s.dev := rfl

/-- A STEP records a breach of the settle duty whether a reset is to come or not. -/
theorem checkDuty_resetAfter (u : UnitNo) (n : Nat) (a : BusAddr) (s : State) :
    checkDuty u (s.resetAfter n a) = (checkDuty u s).resetAfter n a := by
  rw [checkDuty, checkDuty, apply_ite (State.resetAfter n a)]
  rfl

/-! ### The end of a command and its events -/

/-- Where a command has ended there is nothing left to cut. -/
theorem Interrupted.ended (r : State) : Interrupted r.events r fun _ _ => r :=
  ⟨[], (List.append_nil _).symm, fun n _ => ⟨fun hn => absurd hn n.not_lt_zero, fun _ => rfl⟩⟩

/-- The rule of every event `e`: a reset is due before it, or is one event nearer after it. -/
theorem Interrupted.gate {s : State} {g : State → State} (e : Event) (hs : s.pendingReset = none)
    (hg : Interrupted (s.events ++ [e]) (g (s.proceed none)) fun n a => g ((s.proceed none).resetAfter n a)) :
    Interrupted s.events (gate s g) fun n a => Machine.gate (s.resetAfter n a) g := by
  obtain ⟨es, hes, hcut⟩ := hg
  rw [gate_run hs]
  refine ⟨e :: es, by rw [hes, List.append_assoc, List.singleton_append], fun n a => ?_⟩
  cases n with
  | zero =>
    have hdue : Machine.gate (s.resetAfter 0 a) g = resetBlock a s := gate_reset rfl g
    exact ⟨fun _ => ⟨s, hdue, (List.append_nil _).symm⟩, fun hn => absurd hn (by simp)⟩
  | succ n =>
    have hnearer : Machine.gate (s.resetAfter (n + 1) a) g = g ((s.proceed none).resetAfter n a) := gate_nearer rfl g
    obtain ⟨hdue, hlate⟩ := hcut n a
    refine ⟨fun hn => ?_, fun hn => hnearer.trans (hlate (Nat.le_of_succ_le_succ hn))⟩
    obtain ⟨m, hm, hevents⟩ := hdue (Nat.lt_of_succ_lt_succ hn)
    refine ⟨m, hnearer.trans hm, ?_⟩
    rw [hevents, List.append_assoc, List.singleton_append, List.take_succ_cons]

namespace Interruptible

/-- `Respond` (R12) is the last event of a command. -/
theorem respond (st : Status) (d : Half) : Interruptible (respond st d) := fun s hs =>
  .gate (.respond st d) hs (.ended (respondNow st d (s.proceed none)))

/-! ### Register commands (40_register_protocol.md) -/

/-- A write transaction: a reset to come has no part in its answer, and what follows each answer is interruptible. -/
theorem busWrite {bytes : List Byte} {k : State → State} (hk : Interruptible k) :
    Interruptible fun s => busWrite bytes s k := by
  intro s hs
  have hover : ((s.proceed none).afterWrite bytes).pendingReset = none := rfl
  refine .gate (.busWrite s.devAddr bytes (drawWriteAnswer (s.drawAt 0))) hs ?_
  simp only [drawAt_resetAfter, drawAt_proceed]
  split
  · exact hk _ hover
  · exact respond .busFail 0 _ hover
  · exact .ended (hang _ ((s.proceed none).afterWrite bytes))

/-- A read transaction, in the same way. -/
theorem busRead {k : Byte → State → State} (hk : ∀ b, Interruptible (k b)) :
    Interruptible fun s => busRead s k := by
  intro s hs
  have hover : (s.proceed none).afterRead.pendingReset = none := rfl
  refine .gate (.busRead s.devAddr (drawReadAnswer s.dev (s.drawAt 0))) hs ?_
  simp only [drawAt_resetAfter, drawAt_proceed, resetAfter_dev, proceed_dev]
  split
  · next b _ => exact hk b _ hover
  · exact respond .busFail 0 _ hover
  · exact .ended (hang _ (s.proceed none).afterRead)

/-! ### Step sequencer commands (41_step_sequencer.md) -/

section
variable (u : UnitNo) {k : State → State} (hk : Interruptible k)
include hk

theorem portWrite (p : Pattern) : Interruptible fun s => portWrite u p s k := fun s hs =>
  .gate (.portWrite u p) hs (hk ((s.proceed none).afterPortWrite u p) rfl)

theorem portFlush : Interruptible fun s => portFlush u s k := fun s hs =>
  .gate (.portFlush u) hs (hk ((s.proceed none).afterPortFlush u) rfl)

theorem settle : Interruptible fun s => settle u s k := fun s hs =>
  .gate (.settle u) hs (hk ((s.proceed none).afterSettle u) rfl)

theorem emission : Interruptible fun s => emission u s k := fun s hs =>
  (hk.portFlush u).portWrite u (rom (s.idxOf u)) s hs

/-- The main phase, by induction on the number of its rounds. -/
theorem stepMain (d : Direction) (q : Nat) : Interruptible fun s => stepMain u d q s k := by
  induction q with
  | zero => exact hk
  | succ q ih =>
    have hround : Interruptible fun s => Machine.stepMain u d q (s.setRem (s.rem - 3)) k :=
      fun s hs => ih (s.setRem (s.rem - 3)) hs
    exact fun s hs => (hround.settle u).emission u (s.moveIdx u d 3) hs

end

/-- The response of a STEP or EMIT, with the update `f` that the command makes on the way to it. -/
theorem respondAfter {f : State → State} (hf : ∀ s, (f s).events = s.events)
    (hr : ∀ s n a, respondNow .ok 0 (f (s.resetAfter n a)) = respondNow .ok 0 (f s)) :
    Interruptible fun s => gate s fun s => respondNow .ok 0 (f s) := by
  intro s hs
  refine .gate (.respond .ok 0) hs ?_
  have hended := Interrupted.ended (respondNow .ok 0 (f (s.proceed none)))
  rw [respondNow_events, hf] at hended
  simpa only [hr, proceed_events] using hended

theorem stepRemainder (u : UnitNo) (d : Direction) : Interruptible (stepRemainder u d) := by
  cases d with
  | cw =>
    have hend : Interruptible fun s => gate (s.setRem 0) fun s => respondNow .ok 0 (clearDuty u s) := fun s hs =>
      respondAfter (f := clearDuty u) (fun _ => rfl) (fun _ _ _ => rfl) (s.setRem 0) hs
    exact fun s hs => (hend.settle u).emission u (s.moveIdx u .cw (s.rem.setWidth 3)) hs
  | ccw =>
    have hend : Interruptible fun s => gate (s.setRem 0) fun s => respondNow .ok 0 (oweSettle u s) := fun s hs =>
      respondAfter (f := oweSettle u) (fun _ => rfl) (fun _ _ _ => rfl) (s.setRem 0) hs
    exact fun s hs => hend.emission u (s.moveIdx u .ccw (s.rem.setWidth 3)) hs

/-- A command for a unit the block does not have issues its ILLEGAL response alone (log 16). -/
theorem ofUnit (u : UnitNo) {f : State → State} (hf : Interruptible f) :
    Interruptible fun s => if s.hasUnit u then f s else raiseIllegal s := by
  intro s hs
  have hsame (n : Nat) (a : BusAddr) : (s.resetAfter n a).hasUnit u = s.hasUnit u := rfl
  simp only [hsame]
  split
  · exact hf s hs
  · exact respond .illegal 0 s hs

theorem execStep (u : UnitNo) (d : Direction) (c : StepCount) : Interruptible fun s =>
    Machine.stepMain u d (c.toNat / 3) ((checkDuty u s).setRem c) (Machine.stepRemainder u d) := by
  intro s hs
  have hmain := (stepRemainder u d).stepMain u d (c.toNat / 3) ((checkDuty u s).setRem c) (by simpa using hs)
  simp only [checkDuty_resetAfter]
  rwa [setRem_events, checkDuty_events] at hmain

theorem execEmit (u : UnitNo) : Interruptible fun s => Machine.emission u s fun t =>
    Machine.gate t fun t => respondNow .ok 0 (if (s.portOf u).driven then t else oweSettle u t) := by
  intro s hs
  have hend : Interruptible fun t =>
      Machine.gate t fun t => respondNow .ok 0 (if (s.portOf u).driven then t else oweSettle u t) := by
    refine respondAfter (fun t => ?_) (fun t n a => ?_)
    · split <;> rfl
    · split <;> rfl
  exact hend.emission u s hs

/-- Every command. -/
theorem exec (i : Instr) : ∃ run, Interruptible run ∧ ∀ s, exec i s = .next (run s) := by
  cases i with
  | select a => exact ⟨_, (respond .ok 0).busWrite, fun _ => rfl⟩
  | read a => exact ⟨_, (busRead fun b => respond .ok (zext16 b)).busWrite, fun _ => rfl⟩
  | readPair a =>
    have hlow (hi : Byte) : Interruptible fun s => Machine.busRead (s.setHi hi) fun lo s =>
        Machine.respond .ok (pairOf hi lo) s :=
      fun s hs => busRead (fun lo => respond .ok (pairOf hi lo)) (s.setHi hi) hs
    exact ⟨_, (busRead hlow).busWrite, fun _ => rfl⟩
  | write a v => exact ⟨_, (respond .ok 0).busWrite, fun _ => rfl⟩
  | step u d c => exact ⟨_, (execStep u d c).ofUnit u, fun _ => rfl⟩
  | emit u => exact ⟨_, (execEmit u).ofUnit u, fun _ => rfl⟩

end Interruptible

section
variable {i : Instr} {s r : State} {k : Nat} {a : BusAddr} (hs : s.pendingReset = some (k, a))
  (hr : exec i s.withoutReset = .next r)
include hs hr

/-- `es` being what a command issues when no reset comes, a reset after `k` of its events ends it before the next of
them, or comes too late to change anything. -/
theorem exec_interrupted : ∃ es, r.events = s.events ++ es ∧
    (k < es.length → ∃ m, exec i s = .next (resetBlock a m) ∧ m.events = s.events ++ es.take k) ∧
    (es.length ≤ k → exec i s = .next r) := by
  obtain ⟨run, hrun, heq⟩ := Interruptible.exec i
  obtain rfl := Host.Outcome.next.inj ((heq _).symm.trans hr)
  obtain ⟨es, hes, hcut⟩ := hrun s.withoutReset rfl
  obtain ⟨hdue, hlate⟩ := hcut k a
  simp only [resetAfter_withoutReset hs] at hdue hlate
  rw [heq s]
  refine ⟨es, hes, fun hk => ?_, fun hk => congrArg _ (hlate hk)⟩
  obtain ⟨m, hm, hevents⟩ := hdue hk
  exact ⟨m, congrArg _ hm, hevents⟩

/-- As `exec_interrupted`, where the events are known and the reset comes in time. -/
theorem exec_cut {es : List Event} (hes : r.events = s.events ++ es) (hk : k < es.length) :
    ∃ m, exec i s = .next (resetBlock a m) ∧ m.events = s.events ++ es.take k := by
  obtain ⟨es', hes', hdue, -⟩ := exec_interrupted hs hr
  obtain rfl : es = es' := List.append_cancel_left (hes.symm.trans hes')
  exact hdue hk

end

/-! ### A STEP (O46) -/

/-- A STEP that no reset disturbs, a settle perhaps still running at its start. -/
theorem execStep_of_no_reset {u : UnitNo} {s : State} (hs : s.pendingReset = none) (hu : s.hasUnit u = true)
    (d : Direction) (c : StepCount) :
    exec (.step u d c) s = .next (stepEnd u d ((checkDuty u s).setRem c)) := by
  have hrun : stepMain u d (c.toNat / 3) ((checkDuty u s).setRem c) (stepRemainder u d) =
      stepEnd u d ((checkDuty u s).setRem c) := stepMain_stepRemainder (by simpa using hs) u d rfl
  rw [execStep_of_unit hu, hrun]

/-- Settles O46: a cut of the STEP's events and the response after them. -/
theorem resetCutsStepShort : Obligations.ResetCutsStepShort := by
  intro u d c s k a hu hs hk
  have hrun := execStep_of_no_reset (s := s.withoutReset) rfl hu d c
  have hevents : (stepEnd u d ((checkDuty u s.withoutReset).setRem c)).events =
      s.events ++ (stepEvents u d (s.idxOf u) c ++ [.respond .ok 0]) := by
    simp [stepEnd, idxOf_eq, State.withoutReset]
  obtain ⟨m, hm, hcut⟩ := exec_cut hs hrun hevents (by simpa using Nat.lt_succ_of_le hk)
  rw [List.take_append_of_le_length hk] at hcut
  exact ⟨_, hm, rfl, get_zero_idx, hcut⟩

/-! ### Any command (O45) -/

/-- A command that no reset disturbs responds once or leaves the block stuck. -/
theorem exec_respondedOnce {i : Instr} {s t : State} (hs : s.pendingReset = none) (hexec : s.phase = .exec)
    (he : exec i s = .next t) : RespondedOnceOrStuck s.events t := by
  have hrpm := rpmCarries_respondedOnce s.events
  have hseq (u : UnitNo) : StepCarries u (Issued Answered s.events) (RespondedOnceOrStuck s.events) :=
    Issued.stepCarries (fun _ => ⟨rfl, rfl⟩) ⟨rfl, rfl⟩ ⟨rfl, rfl⟩
  have hstart : Issued Answered s.events s := .start hs
  cases i with
  | select _ | read _ | readPair _ | write _ _ => exact hrpm.exec rfl ⟨hstart, hexec⟩ he
  | step u d c =>
    cases hu : s.hasUnit u with
    | true => exact (hseq u).execStep (fun _ h _ _ => respondNow_respondedOnce h _ _) hu hstart he
    | false =>
      obtain rfl := Host.Outcome.next.inj ((execStep_of_no_unit hu d c).symm.trans he)
      exact hrpm.illegal ⟨hstart, hexec⟩
  | emit u =>
    cases hu : s.hasUnit u with
    | true => exact (hseq u).execEmit (fun _ h _ => respondNow_respondedOnce h _ _) hu hstart he
    | false =>
      obtain rfl := Host.Outcome.next.inj ((execEmit_of_no_unit hu).symm.trans he)
      exact hrpm.illegal ⟨hstart, hexec⟩

theorem RespondedOnceOrStuck.phase_ne_idle {old : List Event} {t : State} (h : RespondedOnceOrStuck old t) :
    t.phase ≠ .idle := by
  obtain ⟨_, -, ⟨hresp, -⟩ | ⟨⟨hexec, -⟩, -⟩⟩ := h
  · simp [hresp]
  · simp [hexec]

/-- The response is the last event, so none of the events before the last is one. -/
theorem RespondedOnceOrStuck.no_response_in_take {old es : List Event} {t : State} (h : RespondedOnceOrStuck old t)
    (hes : t.events = old ++ es) {k : Nat} (hk : k < es.length) : ∀ e ∈ es.take k, isRespond e = false := by
  obtain ⟨es', hnone, ⟨-, -, st, d, hevents, -⟩ | ⟨-, hevents, -⟩⟩ := h
  · rw [List.append_assoc] at hevents
    obtain rfl := List.append_cancel_left (hes.symm.trans hevents)
    rw [List.take_append_of_le_length (by simpa [Nat.lt_succ_iff] using hk)]
    exact fun e he => hnone e (List.mem_of_mem_take he)
  · obtain rfl := List.append_cancel_left (hes.symm.trans hevents)
    exact fun e he => hnone e (List.mem_of_mem_take he)

/-- The registers of the block after a reset (R47, R260). -/
theorem resetBlock_registers (a : BusAddr) (m : State) :
    let t := resetBlock a m
    t.devAddr = a ∧ (∀ u, t.idxOf u = 0) ∧ t.cmd = 0 ∧ t.rem = 0 ∧ t.hi = 0 ∧ t.rspStatus = 0 ∧ t.rspData = 0 ∧
      t.timer = 0 ∧ t.outstanding = none ∧ t.pendingReset = none :=
  ⟨rfl, get_zero_idx, rfl, rfl, rfl, rfl, rfl, rfl, rfl, rfl⟩

/-- Settles O45. A run that ends in IDLE is not one that the reset came too late for: such a run responds or hangs. -/
theorem resetDuringCommand : Obligations.ResetDuringCommand := by
  constructor
  · intro i s t k a hexec hs he hidle
    obtain ⟨r, hr⟩ := exec_answers_next i s.withoutReset
    have hend : RespondedOnceOrStuck s.events r := exec_respondedOnce (s := s.withoutReset) rfl hexec hr
    obtain ⟨es, hes, hdue, hlate⟩ := exec_interrupted hs hr
    have hk : k < es.length := by
      by_contra hk
      obtain rfl := Host.Outcome.next.inj (he.symm.trans (hlate (Nat.le_of_not_lt hk)))
      exact hend.phase_ne_idle hidle
    obtain ⟨m, hm, hevents⟩ := hdue hk
    obtain rfl := Host.Outcome.next.inj (he.symm.trans hm)
    refine ⟨⟨es.take k, hevents, List.length_take_of_le hk.le, ?_⟩, resetBlock_registers a m⟩
    exact hend.no_response_in_take hes hk
  · intro i s r k a es hs hr hes hk
    obtain ⟨m, hm, hevents⟩ := exec_cut hs hr hes hk
    exact ⟨_, hm, rfl, hevents, resetBlock_registers a m⟩

end Sys2Proof.Machine
end
